-- ==== Sys2Proof/Word.lean ====
section
/-! DEFINITION. The value types of the block (spec/00_scope.md R8 to R10, R6). -/

namespace Sys2Proof

/-- A `u8`: a control byte, a DAC code, an ADC code or a byte on the bus (R6, R9). -/
abbrev Byte := BitVec 8

/-- A `u4`: the field A of a command word (R9, R73). -/
abbrev Nibble := BitVec 4

/-- A `u16`: a command word (R73). -/
abbrev Word := BitVec 16

/-- A 7-bit device address of the two-wire bus (R56). -/
abbrev BusAddr := BitVec 7

/-- A voltage: an exact rational, the default of the parameter VOLT (R7, R10; log 8). -/
abbrev Volt := Rat

/-- An ADC channel number, 0 to 3 (NUM_CHANNELS, R6). -/
abbrev Channel := Fin 4

end Sys2Proof
end

