-- ==== Sys2Proof/Syntax.lean ====
section
/-! DEFINITION. The commands of the block, one constructor per row of the opcode map
(spec/30_encoding.md R79). Operands stand in the order of the assembler syntax (R85): a field that
comes from B is a `Byte`, one that comes from A is a `Nibble`, with its ignored bits kept (R88;
log 15). -/

namespace Sys2Proof

inductive Instr where
  /-- `CR_SET_CHANNEL byte, channel` (R104). -/
  | crSetChannel (byte : Byte) (channel : Nibble)
  /-- `CR_SET_INPUT_MODE byte, mode` (R105). -/
  | crSetInputMode (byte : Byte) (mode : Nibble)
  /-- `CR_ENABLE_DAC byte, enabled` (R106). -/
  | crEnableDac (byte : Byte) (enabled : Nibble)
  /-- `CR_SET_AI byte` (R107). -/
  | crSetAi (byte : Byte)
  /-- `CR_CLEAR_AI byte` (R108). -/
  | crClearAi (byte : Byte)
  /-- `CR_DECODE byte` (R109). -/
  | crDecode (byte : Byte)
  /-- `CONV_C2V code` (R122). -/
  | convC2v (code : Byte)
  /-- `CONV_V2C` (R123). -/
  | convV2c
  /-- `INIT enable_dac, input_mode` (R147). -/
  | init (enableDac : Byte) (inputMode : Nibble)
  /-- `WRITE_RAW code` (R150). -/
  | writeRaw (code : Byte)
  /-- `WRITE_VOLTAGE` (R151). -/
  | writeVoltage
  /-- `READ_CHANNEL_RAW channel` (R153). -/
  | readChannelRaw (channel : Nibble)
  /-- `READ_CHANNEL_VOLTAGE channel` (R154). -/
  | readChannelVoltage (channel : Nibble)
  /-- `READ_ALL_RAW` (R156). -/
  | readAllRaw
  /-- `READ_ALL_VOLTAGE` (R157). -/
  | readAllVoltage
  deriving DecidableEq, Repr

end Sys2Proof
end

