-- ==== Sys2Proof/WellFormed.lean ====
section
/-! DEFINITION. Which command terms have a command word (spec/30_encoding.md R76, R81). The operand
types already bound every field, so the one check left is form EB's must-be-zero bits. -/

namespace Sys2Proof

/-- Form EB (R76): of the enable flag, `A[3:1]` must be 0. -/
def enableFlagFits (a : Nibble) : Bool := a &&& 0xE == 0

/-- The command has a legal command word. -/
def Instr.wellFormed : Instr → Bool
  | .crSetChannel _ _ => true
  | .crSetInputMode _ _ => true
  | .crEnableDac _ enabled => enableFlagFits enabled
  | .crSetAi _ => true
  | .crClearAi _ => true
  | .crDecode _ => true
  | .convC2v _ => true
  | .convV2c => true
  | .init _ _ => true
  | .writeRaw _ => true
  | .writeVoltage => true
  | .readChannelRaw _ => true
  | .readChannelVoltage _ => true
  | .readAllRaw => true
  | .readAllVoltage => true

end Sys2Proof
end

