-- ==== Sys2Proof/Decode.lean ====
section
/-! DEFINITION. The opcode map, decoding and encoding of command words (spec/30_encoding.md R73 to
R84, R88). -/

namespace Sys2Proof

/-- The mnemonics of the opcode map (R79). -/
inductive Mnemonic where
  | crSetChannel | crSetInputMode | crEnableDac | crSetAi | crClearAi | crDecode
  | convC2v | convV2c
  | init | writeRaw | writeVoltage
  | readChannelRaw | readChannelVoltage | readAllRaw | readAllVoltage
  deriving DecidableEq, Repr

/-- The operand forms (R76). -/
inductive Form where
  | ab | mb | eb | b | ch | z | i
  deriving DecidableEq, Repr

/-- The command classes (R92). -/
inductive CmdClass where
  | pure
  | session
  deriving DecidableEq, Repr

/-- One row of the opcode map (R79): a word `w` selects it when `w &&& mask = pattern`. -/
structure OpcodeRow where
  mnemonic : Mnemonic
  form : Form
  pattern : Word
  mask : Word
  cls : CmdClass
  deriving DecidableEq, Repr

/-- The legal rows of the opcode map (R79). OP 0 has no row: it is reserved (R80). -/
def opcodeTable : List OpcodeRow :=
  [⟨.crSetChannel,       .ab, 0x1000, 0xF000, .pure⟩,
   ⟨.crSetInputMode,     .mb, 0x2000, 0xF000, .pure⟩,
   ⟨.crEnableDac,        .eb, 0x3000, 0xFE00, .pure⟩,
   ⟨.crSetAi,            .b,  0x4000, 0xFF00, .pure⟩,
   ⟨.crClearAi,          .b,  0x5000, 0xFF00, .pure⟩,
   ⟨.crDecode,           .b,  0x6000, 0xFF00, .pure⟩,
   ⟨.convC2v,            .b,  0x7000, 0xFF00, .pure⟩,
   ⟨.convV2c,            .z,  0x8000, 0xFFFF, .pure⟩,
   ⟨.init,               .i,  0x9000, 0xF000, .session⟩,
   ⟨.writeRaw,           .b,  0xA000, 0xFF00, .session⟩,
   ⟨.writeVoltage,       .z,  0xB000, 0xFFFF, .session⟩,
   ⟨.readChannelRaw,     .ch, 0xC000, 0xF0FF, .session⟩,
   ⟨.readChannelVoltage, .ch, 0xD000, 0xF0FF, .session⟩,
   ⟨.readAllRaw,         .z,  0xE000, 0xFFFF, .session⟩,
   ⟨.readAllVoltage,     .z,  0xF000, 0xFFFF, .session⟩]

/-- OP = W[15:12] (R75). -/
def fieldOp (w : Word) : Nibble := w.extractLsb' 12 4

/-- A = W[11:8] (R75). -/
def fieldA (w : Word) : Nibble := w.extractLsb' 8 4

/-- B = W[7:0] (R75). -/
def fieldB (w : Word) : Byte := w.extractLsb' 0 8

/-- The command a row's mnemonic stands for, its operands taken from A and B by form (R76, R85). -/
def Mnemonic.build (a : Nibble) (b : Byte) : Mnemonic → Instr
  | .crSetChannel => .crSetChannel b a
  | .crSetInputMode => .crSetInputMode b a
  | .crEnableDac => .crEnableDac b a
  | .crSetAi => .crSetAi b
  | .crClearAi => .crClearAi b
  | .crDecode => .crDecode b
  | .convC2v => .convC2v b
  | .convV2c => .convV2c
  | .init => .init b a
  | .writeRaw => .writeRaw b
  | .writeVoltage => .writeVoltage
  | .readChannelRaw => .readChannelRaw a
  | .readChannelVoltage => .readChannelVoltage a
  | .readAllRaw => .readAllRaw
  | .readAllVoltage => .readAllVoltage

/-- Why a word is illegal (log 17). Issuing either kind is `refuse(IllegalCommand)`. -/
inductive DecodeError where
  /-- OP = 0 is reserved (R80). -/
  | reservedOpcode
  /-- OP names a command and a must-be-zero bit of its form is 1 (R81). -/
  | mustBeZero
  deriving DecidableEq, Repr

/-- The row a word selects (R79). -/
def selectRow (w : Word) : Option OpcodeRow :=
  opcodeTable.find? fun r => w &&& r.mask == r.pattern

/-- Decode (R88): total on every word. -/
def decode (w : Word) : Except DecodeError Instr :=
  match selectRow w with
  | some r => .ok (r.mnemonic.build (fieldA w) (fieldB w))
  | none => .error (if fieldOp w = 0 then .reservedOpcode else .mustBeZero)

/-- The mnemonic of a command. -/
def Instr.mnemonic : Instr → Mnemonic
  | .crSetChannel _ _ => .crSetChannel
  | .crSetInputMode _ _ => .crSetInputMode
  | .crEnableDac _ _ => .crEnableDac
  | .crSetAi _ => .crSetAi
  | .crClearAi _ => .crClearAi
  | .crDecode _ => .crDecode
  | .convC2v _ => .convC2v
  | .convV2c => .convV2c
  | .init _ _ => .init
  | .writeRaw _ => .writeRaw
  | .writeVoltage => .writeVoltage
  | .readChannelRaw _ => .readChannelRaw
  | .readChannelVoltage _ => .readChannelVoltage
  | .readAllRaw => .readAllRaw
  | .readAllVoltage => .readAllVoltage

/-- OP of each mnemonic (R79). -/
def Mnemonic.opcode : Mnemonic → Nibble
  | .crSetChannel => 0x1
  | .crSetInputMode => 0x2
  | .crEnableDac => 0x3
  | .crSetAi => 0x4
  | .crClearAi => 0x5
  | .crDecode => 0x6
  | .convC2v => 0x7
  | .convV2c => 0x8
  | .init => 0x9
  | .writeRaw => 0xA
  | .writeVoltage => 0xB
  | .readChannelRaw => 0xC
  | .readChannelVoltage => 0xD
  | .readAllRaw => 0xE
  | .readAllVoltage => 0xF

/-- The class of each mnemonic (R79, R92). -/
def Mnemonic.cls : Mnemonic → CmdClass
  | .crSetChannel => .pure
  | .crSetInputMode => .pure
  | .crEnableDac => .pure
  | .crSetAi => .pure
  | .crClearAi => .pure
  | .crDecode => .pure
  | .convC2v => .pure
  | .convV2c => .pure
  | .init => .session
  | .writeRaw => .session
  | .writeVoltage => .session
  | .readChannelRaw => .session
  | .readChannelVoltage => .session
  | .readAllRaw => .session
  | .readAllVoltage => .session

/-- The field A of a command's word: its operand, or the must-be-zero 0 (R76, R85). -/
def Instr.argA : Instr → Nibble
  | .crSetChannel _ channel => channel
  | .crSetInputMode _ mode => mode
  | .crEnableDac _ enabled => enabled
  | .crSetAi _ => 0
  | .crClearAi _ => 0
  | .crDecode _ => 0
  | .convC2v _ => 0
  | .convV2c => 0
  | .init _ inputMode => inputMode
  | .writeRaw _ => 0
  | .writeVoltage => 0
  | .readChannelRaw channel => channel
  | .readChannelVoltage channel => channel
  | .readAllRaw => 0
  | .readAllVoltage => 0

/-- The field B of a command's word: its operand, or the must-be-zero 0 (R76, R85). -/
def Instr.argB : Instr → Byte
  | .crSetChannel byte _ => byte
  | .crSetInputMode byte _ => byte
  | .crEnableDac byte _ => byte
  | .crSetAi byte => byte
  | .crClearAi byte => byte
  | .crDecode byte => byte
  | .convC2v code => code
  | .convV2c => 0
  | .init enableDac _ => enableDac
  | .writeRaw code => code
  | .writeVoltage => 0
  | .readChannelRaw _ => 0
  | .readChannelVoltage _ => 0
  | .readAllRaw => 0
  | .readAllVoltage => 0

/-- A command word from its three fields (R73). -/
def packWord (op : Nibble) (a : Nibble) (b : Byte) : Word := op ++ a ++ b

/-- The command word of a well-formed command (R73, R79). -/
def encode (i : Instr) : Word := packWord i.mnemonic.opcode i.argA i.argB

/-- The command of the opcode-table word `w` of `nbits` bits. Every command is one 16-bit word
(R73, R84), so a longer one is none. -/
def decodeTableWord (nbits w : Nat) : Option Instr :=
  if nbits ≤ 16 then
    match decode (BitVec.ofNat 16 (w % 2 ^ nbits)) with
    | .ok i => some i
    | .error _ => none
  else none

end Sys2Proof
end

