-- ==== Sys2Proof/Config.lean ====
section
/-! DEFINITION. The parameters of the block (spec/00_scope.md R6, R7) and the free draws of the
Transport Port (spec/42_sequencer.md R130). -/

namespace Sys2Proof

/-- ROUND_MODE (R7, R116): how `round8` breaks a tie. -/
inductive RoundMode where
  /-- `floor(x + 1/2)`, the spec's default. -/
  | halfUp
  /-- A tie goes to the even neighbour. -/
  | halfEven
  deriving DecidableEq, Repr

/-- REINIT_CB_POLICY (R7, R145): what INIT in state Ready starts composing from. -/
inductive ReinitPolicy where
  /-- The control byte is zeroed before composing, the spec's default. -/
  | zero
  /-- The channel and auto-increment bits are kept. -/
  | preserve
  deriving DecidableEq, Repr

/-- The parameters a model takes as arguments (R7; VOLT is fixed to `Rat`, log 8). State carries
them and no step changes them (log 7). -/
structure Params where
  roundMode : RoundMode
  reinitPolicy : ReinitPolicy
  deriving DecidableEq, Repr

/-- One answer of the Transport Port, fit for any request (R13, R127, R131): `ok` is ready for a
probe, ok for a transmit or a receive. `bytes` holds what a successful receive delivers, the first
received byte at index 0. A receive of `n` bytes delivers the first `n` of them. -/
structure PortAnswer where
  ok : Bool
  bytes : Vector Byte 5
  deriving DecidableEq, Repr

namespace Config

/-- The spec's defaults of ROUND_MODE and REINIT_CB_POLICY (R7). -/
def defaults : Params := ⟨.halfUp, .zero⟩

/-- DEV_ADDR, the one device address the block uses (R6, R56; log 14). -/
def devAddr : BusAddr := 0x48

/-- FULL_SCALE_CODE, the code of the reference voltage (R6). -/
def fullScaleCode : Nat := 255

/-- The transport oracle (R130): the answer of the port `portId` to the n-th request since reset where
no premise fixes it; each instance has its own port (R22). `none` is a port that never answers (R143,
R203). It has no body: every answer is a free draw (log 3). -/
opaque freeAnswer (portId n : Nat) : Option PortAnswer

end Config

end Sys2Proof
end

