-- ==== Sys2Proof/Machine/State.lean ====
section
/-! DEFINITION. The state of the block (spec/10_state.md) with its two neighbours, the host and the
Transport Port, as plain data (spec/00_scope.md R21). -/

namespace Sys2Proof.Machine

/-- SESSION (R25). -/
inductive Session where
  | uninitialized
  | ready
  deriving DecidableEq, Repr

/-- STATUS, the outcome of the last admitted command (R41, R165). -/
inductive Status where
  | ok
  | deviceNotReady
  | busTransferFailed
  | invalidChannel
  deriving DecidableEq, Repr

/-- The errors a command can raise (R14, R165). -/
inductive CmdError where
  /-- The readiness probe failed (R167). -/
  | deviceNotReady
  /-- A transmit or a receive failed (R168). -/
  | busTransferFailed
  /-- The channel argument is outside 0 to 3 (R169). -/
  | invalidChannel
  deriving DecidableEq, Repr

/-- SEQ, the transaction sequencer's phase (R44, R139). -/
inductive Phase where
  | idle
  | probe
  | txCmd
  | txCmdData
  | rx
  | commit
  deriving DecidableEq, Repr

/-- A bus event of TRACE, with its answer (R46). -/
inductive BusEvent where
  /-- `PROBE(addr) -> ready | not_ready`. -/
  | probe (addr : BusAddr) (ready : Bool)
  /-- `TX(addr, bytes) -> ok | fail`, the bytes in transmission order (R57). -/
  | tx (addr : BusAddr) (bytes : List Byte) (ok : Bool)
  /-- `RX(addr, n) -> ok(bytes) | fail`; `none` is fail, and the first byte is the first received
  (R58). -/
  | rx (addr : BusAddr) (n : Nat) (answer : Option (List Byte))
  deriving DecidableEq, Repr

/-- The width of a host access (R12): a number of bytes, or `V` for a Volt register. -/
inductive Width where
  | bytes (n : Nat)
  | volt
  deriving DecidableEq, Repr

/-- A value crossing the host space: an unsigned number of `n` bytes, or a Volt (R12, R60). -/
inductive HostValue where
  | bytes (n : Nat) (v : Nat)
  | volt (v : Volt)
  deriving DecidableEq, Repr

/-- One host access (R12): `MemRead(index, width)`, or `MemWrite(index, n, v)`, whose width is its
value's. -/
inductive HostAccess where
  | read (index : Byte) (width : Width)
  | write (index : Byte) (value : HostValue)
  deriving DecidableEq, Repr

/-- The reasons of a refusal (R15, R170). A refusal sets REFUSED and the run stops there; each is
safe, since no claim can be proved about a refused run (R185). -/
inductive Refusal where
  /-- An instruction that has no meaning in this model yet. Raised by `exec` alone. Safe. -/
  | notModelled (mnemonic : String)
  /-- A CMD word matching no opcode row, or with a must-be-zero bit set (R80, R81). Raised by
  `issue`. Safe. -/
  | illegalCommand
  /-- A session command other than INIT while SESSION is Uninitialized (R90). Raised by the session
  gate. Safe. -/
  | notInitialized
  /-- A command whose reference voltage is not above 0 (R117). Raised when the reference is read.
  Safe. -/
  | nonPositiveReference
  /-- A host access to an index in 0x1E to 0xFF (R54). Raised by a host access. Safe. -/
  | reservedIndex
  /-- A host access whose width is not the register's (R54). Raised by a host access. Safe. -/
  | widthMismatch
  /-- A MemRead of CMD (R54). Raised by a host access. Safe. -/
  | writeOnly
  /-- A MemWrite of a read-only index (R54). Raised by a host access. Safe. -/
  | readOnly
  deriving DecidableEq, Repr

/-- The reasons of a fault. -/
inductive Fault where
  /-- The spec's own fault: a read of a register that holds `none` (R16, R54, R94, R170), the reset
  value R187 gives it. Raised by a host MemRead or by a command's read of a register. Safe. -/
  | readUnwritten
  /-- The Transport Port never answered, and the command stays in its phase for ever (R143, R203).
  Raised by `step` in a state whose SEQ is not IDLE. A stuck state; safe. -/
  | portNeverAnswers
  deriving DecidableEq, Repr

/-- The result registers (R42), each `none` unless the last command wrote it and ended OK. -/
structure Results where
  /-- RES_BYTE. -/
  byte : Option Byte
  /-- RES_VOLT. -/
  volt : Option Volt
  /-- RES_CH. -/
  ch : Option (BitVec 2)
  /-- RES_AI. -/
  ai : Option Bool
  /-- RES_MODE. -/
  mode : Option (BitVec 2)
  /-- RES_DAC. -/
  dac : Option Bool
  /-- RES_CODE[0..3]. -/
  code : Vector (Option Byte) 4
  /-- RES_VOLTS[0..3]. -/
  volts : Vector (Option Volt) 4
  deriving DecidableEq, Repr

/-- Every result register at none (R42, R91). -/
def Results.cleared : Results :=
  ⟨none, none, none, none, none, none, #v[none, none, none, none], #v[none, none, none, none]⟩

/-- The machine's state: the registers of R24, then the model's own fields. `none` in a register is
the spec's no-value marker (R11; log 1). -/
structure State where
  /-- SESSION (R25). -/
  session : Session
  /-- CB, the control byte (R26, R27). -/
  cb : Byte
  /-- VREF, the session reference voltage (R35). -/
  vref : Option Volt
  /-- DAC_DATA, the pending DAC byte (R36). -/
  dacData : Option Byte
  /-- LAST_RAW[0..3] (R37). -/
  lastRaw : Vector Byte 4
  /-- LAST_CONV[0..3] (R38). -/
  lastConv : Vector Volt 4
  /-- VIN, the voltage operand (R40). -/
  vin : Option Volt
  /-- VREF_IN, the reference operand (R40). -/
  vrefIn : Option Volt
  /-- STATUS (R41). -/
  status : Option Status
  /-- The result registers (R42). -/
  results : Results
  /-- SEQ (R44). -/
  seq : Phase
  /-- TRACE, oldest event first (R46). -/
  trace : List BusEvent
  /-- REFUSED (R50), with the reason of the refusal that set it (log 2). -/
  refused : Option Refusal
  /-- FAULT (R51), with the reason of the fault that set it (log 2). -/
  fault : Option Fault
  /-- Model's own: ROUND_MODE and REINIT_CB_POLICY (R7; log 7). -/
  params : Params
  /-- Model's own: which Transport Port the instance has (R22; log 18). -/
  portId : Nat
  /-- Model's own: the port answers a premise fixes, next one first (R130; log 3). -/
  port : List (Option PortAnswer)
  /-- Model's own: how many port answers were taken (log 3). -/
  draws : Nat
  /-- Model's own: the phases SEQ has visited, oldest first (R140; log 11). -/
  phases : List Phase
  /-- Model's own: the host accesses not yet issued, next one first (R93; log 5). -/
  host : List HostAccess
  /-- Model's own: the values the host's reads returned, oldest first (log 5). -/
  replies : List HostValue
  deriving DecidableEq, Repr

/-- The state right after reset (R24, R187). -/
def State.reset : State where
  session := .uninitialized
  cb := 0x00
  vref := none
  dacData := none
  lastRaw := #v[0, 0, 0, 0]
  lastConv := #v[0, 0, 0, 0]
  vin := none
  vrefIn := none
  status := none
  results := Results.cleared
  seq := .idle
  trace := []
  refused := none
  fault := none
  params := Config.defaults
  portId := 0
  port := []
  draws := 0
  phases := []
  host := []
  replies := []

end Sys2Proof.Machine
end

