-- ==== Sys2Proof/Machine/ControlByte.lean ====
section
/-! DEFINITION. The control-byte functions (spec/40_control_register.md R96 to R102, R111). Field
positions: spec/10_state.md R27. -/

namespace Sys2Proof.Machine

/-- `fn_set_channel` (R96, R97). -/
def fnSetChannel (b : Byte) (c : Nibble) : Except CmdError Byte :=
  if 3 < c then .error .invalidChannel else .ok ((b &&& 0xFC) ||| c.setWidth 8)

/-- `fn_set_input_mode` (R98). -/
def fnSetInputMode (b : Byte) (m : Nibble) : Byte :=
  (b &&& 0xCF) ||| ((m &&& 0x3).setWidth 8 <<< 4)

/-- `fn_enable_dac` (R99). -/
def fnEnableDac (b : Byte) (e : Bool) : Byte :=
  if e then b ||| 0x40 else b &&& 0xBF

/-- `fn_set_ai` (R100). -/
def fnSetAi (b : Byte) : Byte := b ||| 0x04

/-- `fn_clear_ai` (R101). -/
def fnClearAi (b : Byte) : Byte := b &&& 0xFB

/-- The fields of a control byte (R27), as `fn_decode` returns them (R102). -/
structure CbFields where
  channel : BitVec 2
  autoIncrement : Bool
  inputMode : BitVec 2
  dacEnable : Bool
  deriving DecidableEq, Repr

/-- `fn_decode` (R102). -/
def fnDecode (b : Byte) : CbFields :=
  ⟨b.extractLsb' 0 2, b.getLsbD 2, b.extractLsb' 4 2, b.getLsbD 6⟩

/-- `fn_compose` (R111): the byte `0, dac, mode, 0, ai, ch`, most significant first. -/
def fnCompose (dac : Bool) (mode : BitVec 2) (ai : Bool) (ch : BitVec 2) : Byte :=
  0#1 ++ BitVec.ofBool dac ++ mode ++ 0#1 ++ BitVec.ofBool ai ++ ch

/-- `init_compose` (spec/43_session.md R145), under REINIT_CB_POLICY. -/
def initCompose (policy : ReinitPolicy) (cb : Byte) (en : Bool) (mode : BitVec 2) : Byte :=
  let base := match policy with
    | .zero => 0x00
    | .preserve => cb
  fnEnableDac (fnSetInputMode base (mode.setWidth 4)) en

end Sys2Proof.Machine
end

