-- ==== Sys2Proof/Machine/Flags.lean ====
section
/-! DEFINITION. STATUS and the sticky marks: the block has no other flags (spec/10_state.md R41,
R43, R50, R51; spec/60_exceptions.md R165). How a command ends, and the one operation by which it
raises an error (spec/00_scope.md R14). -/

namespace Sys2Proof.Machine

/-- The STATUS encoding (R165). -/
def Status.code : Status → BitVec 2
  | .ok => 0
  | .deviceNotReady => 1
  | .busTransferFailed => 2
  | .invalidChannel => 3

/-- The STATUS an error writes (R165). -/
def CmdError.status : CmdError → Status
  | .deviceNotReady => .deviceNotReady
  | .busTransferFailed => .busTransferFailed
  | .invalidChannel => .invalidChannel

/-- SESSION as the host reads it (R25). -/
def Session.code : Session → Byte
  | .uninitialized => 0
  | .ready => 1

/-- SEQ <- p, recorded among the visited phases (R139; log 11). -/
def State.setSeq (s : State) (p : Phase) : State :=
  { s with seq := p, phases := s.phases ++ [p] }

/-- STATUS <- st. -/
def State.setStatus (s : State) (st : Status) : State := { s with status := some st }

/-- The end of a command that is neither refused nor faulted: STATUS is written, and SEQ is IDLE
(R41, R89). -/
def State.finish (s : State) (st : Status) : State := (s.setStatus st).setSeq .idle

/-- `raise E` (R14, R166): the command ends, STATUS <- code(E), and what earlier steps wrote stays
written. -/
def State.raise (s : State) (e : CmdError) : State := s.finish e.status

/-- `refuse(reason)` (R15, R50): REFUSED is set and nothing else changes. -/
def State.refuse (s : State) (r : Refusal) : State := { s with refused := some r }

/-- `fault(reason)` (R15, R16, R51): FAULT is set and nothing else changes. -/
def State.faultAt (s : State) (f : Fault) : State := { s with fault := some f }

/-- `SEQ <- IDLE` after a rule that refused or faulted (R89). No phase is recorded: no bus event
stands before such an end, so SEQ was IDLE (log 11). -/
def State.idleSeq (s : State) : State := { s with seq := .idle }

/-- REFUSED = 0 and FAULT = 0, the premise of every claim about a run (R51). -/
def State.unmarked (s : State) : Bool := s.refused.isNone && s.fault.isNone

end Sys2Proof.Machine
end

