-- ==== Sys2Proof/Machine/Ops.lean ====
section
/-! DEFINITION. The named operations over the block's registers: one per register or group a
command writes, the admission of a command (spec/30_encoding.md R89 to R91), and the taking of one
Transport Port answer (spec/42_sequencer.md R130, R141). -/

namespace Sys2Proof.Machine

/-- SESSION <- v. -/
def State.setSession (s : State) (v : Session) : State := { s with session := v }

/-- CB <- b. -/
def State.setCb (s : State) (b : Byte) : State := { s with cb := b }

/-- VREF <- r. -/
def State.setVref (s : State) (r : Volt) : State := { s with vref := some r }

/-- DAC_DATA <- b. -/
def State.setDacData (s : State) (b : Byte) : State := { s with dacData := some b }

/-- VIN <- v, a host write (R55). -/
def State.setVin (s : State) (v : Volt) : State := { s with vin := some v }

/-- VREF_IN <- v, a host write (R55). -/
def State.setVrefIn (s : State) (v : Volt) : State := { s with vrefIn := some v }

/-- The result registers a command produces (R42). -/
def State.setResults (s : State) (r : Results) : State := { s with results := r }

/-- Every result register <- none (R91). -/
def State.clearResults (s : State) : State := { s with results := Results.cleared }

/-- LAST_RAW[c] <- code, LAST_CONV[c] <- volt (R152). -/
def State.setCache (s : State) (c : Channel) (code : Byte) (volt : Volt) : State :=
  { s with lastRaw := s.lastRaw.set c code, lastConv := s.lastConv.set c volt }

/-- A host read returned `v`. -/
def State.reply (s : State) (v : HostValue) : State := { s with replies := s.replies ++ [v] }

/-- The host has the accesses `as` left. -/
def State.setHost (s : State) (as : List HostAccess) : State := { s with host := as }

/-- The Transport Port's answer to the k-th request from now (R130): the one a premise fixes, or
else a free draw of the instance's own port (R22). `none` is a port that never answers (R143). -/
def State.answerAt (s : State) (k : Nat) : Option PortAnswer :=
  match s.port[k]? with
  | some a => a
  | none => Config.freeAnswer s.portId (s.draws + k)

/-- The answer to the next request. -/
def State.answer (s : State) : Option PortAnswer := s.answerAt 0

/-- The next answer is taken, and the event it answers is appended to TRACE (R46, R141). -/
def State.takeAnswer (s : State) (e : BusEvent) : State :=
  { s with port := s.port.drop 1, draws := s.draws + 1, trace := s.trace ++ [e] }

/-- Admission of a pure command or of INIT, in either SESSION state (R89, R90): the result registers
are cleared (R91), then the command's rule runs. -/
def admitCommand (s : State) (rule : State → State) : Host.Outcome State Fault Refusal :=
  .next (rule s.clearResults)

/-- Admission of a session command other than INIT (R89, R90): the session gate first. -/
def admitReady (s : State) (rule : State → State) : Host.Outcome State Fault Refusal :=
  match s.session with
  | .uninitialized => .next (s.refuse .notInitialized)
  | .ready => admitCommand s rule

end Sys2Proof.Machine
end

