-- ==== Sys2Proof/Machine/Operands.lean ====
section
/-! DEFINITION. How a command reads its operands: the bits of A and B its form uses
(spec/30_encoding.md R76 to R78) and the voltage operands (R94; spec/00_scope.md R16;
spec/41_conversion.md R117). -/

namespace Sys2Proof.Machine

/-- Forms MB and I: the input mode is `A[1:0]`, and `A[3:2]` is ignored (R76). -/
def modeArg (a : Nibble) : BitVec 2 := a.extractLsb' 0 2

/-- Form EB: `enabled = A[0]` (R78). -/
def enabledArg (a : Nibble) : Bool := a.getLsbD 0

/-- Form I: `enable_dac = B[0]`, and `B[7:1]` is ignored (R78). -/
def enableDacArg (b : Byte) : Bool := b.getLsbD 0

/-- The array index of a channel argument that passed the range check (R97). -/
def channelArg (a : Nibble) : Channel := Fin.ofNat 4 a.toNat

/-- A command's read of VIN: a fault if it holds none (R16). -/
def withVin (s : State) (k : Volt → State) : State :=
  match s.vin with
  | none => (s.faultAt .readUnwritten).idleSeq
  | some v => k v

/-- A command's read of a reference voltage, held in VREF_IN or in VREF: a fault if it holds none
(R16), a refusal if it is not above 0 (R117). -/
def withReference (s : State) (ref : Option Volt) (k : Volt → State) : State :=
  match ref with
  | none => (s.faultAt .readUnwritten).idleSeq
  | some r => if r ≤ 0 then (s.refuse .nonPositiveReference).idleSeq else k r

end Sys2Proof.Machine
end

