-- ==== Sys2Proof/Machine/ControlRegister.lean ====
section
/-! DEFINITION. The pure CR_* commands (spec/40_control_register.md R104 to R109). -/

namespace Sys2Proof.Machine

/-- A pure command's good end: its results, then STATUS <- OK. -/
def State.finishWith (s : State) (r : Results) : State := (s.setResults r).finish .ok

/-- RES_BYTE alone. -/
def Results.ofByte (b : Byte) : Results := { Results.cleared with byte := some b }

/-- RES_CH, RES_AI, RES_MODE and RES_DAC alone. -/
def Results.ofFields (f : CbFields) : Results :=
  { Results.cleared with
    ch := some f.channel, ai := some f.autoIncrement, mode := some f.inputMode,
    dac := some f.dacEnable }

/-- CR_SET_CHANNEL (R104). -/
def execCrSetChannel (byte : Byte) (channel : Nibble) (s : State) :
    Host.Outcome State Fault Refusal :=
  admitCommand s fun t =>
    match fnSetChannel byte channel with
    | .error e => t.raise e
    | .ok r => t.finishWith (Results.ofByte r)

/-- CR_SET_INPUT_MODE (R105). -/
def execCrSetInputMode (byte : Byte) (mode : Nibble) (s : State) :
    Host.Outcome State Fault Refusal :=
  admitCommand s fun t => t.finishWith (Results.ofByte (fnSetInputMode byte mode))

/-- CR_ENABLE_DAC (R106). -/
def execCrEnableDac (byte : Byte) (enabled : Nibble) (s : State) :
    Host.Outcome State Fault Refusal :=
  admitCommand s fun t => t.finishWith (Results.ofByte (fnEnableDac byte (enabledArg enabled)))

/-- CR_SET_AI (R107). -/
def execCrSetAi (byte : Byte) (s : State) : Host.Outcome State Fault Refusal :=
  admitCommand s fun t => t.finishWith (Results.ofByte (fnSetAi byte))

/-- CR_CLEAR_AI (R108). -/
def execCrClearAi (byte : Byte) (s : State) : Host.Outcome State Fault Refusal :=
  admitCommand s fun t => t.finishWith (Results.ofByte (fnClearAi byte))

/-- CR_DECODE (R109). -/
def execCrDecode (byte : Byte) (s : State) : Host.Outcome State Fault Refusal :=
  admitCommand s fun t => t.finishWith (Results.ofFields (fnDecode byte))

end Sys2Proof.Machine
end

