-- ==== Sys2Proof/Machine/Converter.lean ====
section
/-! DEFINITION. The voltage converter (spec/41_conversion.md R113 to R116), over exact rationals
(spec/00_scope.md R10). -/

namespace Sys2Proof.Machine

/-- `code_to_voltage(code, r) = code * r / 255` (R113). -/
def codeToVoltage (code : Byte) (r : Volt) : Volt :=
  (code.toNat : Volt) * r / (Config.fullScaleCode : Volt)

/-- `clamp(v, lo, hi) = min(max(v, lo), hi)` (R10, R115). -/
def clampVolt (v lo hi : Volt) : Volt := min (max v lo) hi

/-- HALF_UP: `floor(x + 1/2)` (R116). -/
def roundHalfUp (x : Volt) : Int := (x + 1 / 2).floor

/-- HALF_EVEN: the nearest integer, a tie to the even neighbour (R116). -/
def roundHalfEven (x : Volt) : Int :=
  if x - x.floor < 1 / 2 then x.floor
  else if 1 / 2 < x - x.floor then x.floor + 1
  else if x.floor % 2 = 0 then x.floor else x.floor + 1

/-- `round8` (R116), under ROUND_MODE. -/
def round8 (mode : RoundMode) (x : Volt) : Int :=
  match mode with
  | .halfUp => roundHalfUp x
  | .halfEven => roundHalfEven x

/-- `voltage_to_code(v, r)`, for r > 0 (R114). -/
def voltageToCode (mode : RoundMode) (v r : Volt) : Byte :=
  BitVec.ofInt 8 (round8 mode (clampVolt v 0 r / r * (Config.fullScaleCode : Volt)))

end Sys2Proof.Machine
end

