-- ==== Sys2Proof/Machine/Conversion.lean ====
section
/-! DEFINITION. The pure CONV_* commands (spec/41_conversion.md R122, R123). -/

namespace Sys2Proof.Machine

/-- RES_VOLT alone. -/
def Results.ofVolt (v : Volt) : Results := { Results.cleared with volt := some v }

/-- CONV_C2V (R122). -/
def execConvC2v (code : Byte) (s : State) : Host.Outcome State Fault Refusal :=
  admitCommand s fun t =>
    withReference t t.vrefIn fun r => t.finishWith (Results.ofVolt (codeToVoltage code r))

/-- CONV_V2C (R123): VIN is read first, then VREF_IN (R94). -/
def execConvV2c (s : State) : Host.Outcome State Fault Refusal :=
  admitCommand s fun t =>
    withVin t fun v =>
      withReference t t.vrefIn fun r =>
        t.finishWith (Results.ofByte (voltageToCode t.params.roundMode v r))

end Sys2Proof.Machine
end

