-- ==== Sys2Proof/Machine/Sequencer.lean ====
section
/-! DEFINITION. The two-wire transaction sequencer (spec/42_sequencer.md): the three transport
requests, the transaction shapes built on them, and the commit of readings to the caches
(spec/43_session.md R152). Each takes what the command does next as its last argument `k`. Where
the port never answers, the command goes no further and SEQ stays in its phase (R143; log 4). -/

namespace Sys2Proof.Machine

/-- `Bus.probe()` (R128): `k` gets ready or not. -/
def busProbe (s : State) (k : Bool → State → State) : State :=
  match s.answer with
  | none => s
  | some a => k a.ok (s.takeAnswer (.probe Config.devAddr a.ok))

/-- `Bus.tx(bytes)` (R129): `k` gets ok or not. -/
def busTx (s : State) (bytes : List Byte) (k : Bool → State → State) : State :=
  match s.answer with
  | none => s
  | some a => k a.ok (s.takeAnswer (.tx Config.devAddr bytes a.ok))

/-- The `n` bytes a successful receive delivers, the first received at index 0 (R58, R131). -/
def receivedBytes (a : PortAnswer) (n : Nat) (hn : n ≤ 5) : Vector Byte n :=
  Vector.ofFn fun j : Fin n => a.bytes[j.val]

/-- `Bus.rx(n)` (R131): `k` gets the n bytes, or none on fail. -/
def busRx (s : State) (n : Nat) (hn : n ≤ 5) (k : Option (Vector Byte n) → State → State) : State :=
  match s.answer with
  | none => s
  | some a =>
    if a.ok then
      k (some (receivedBytes a n hn))
        (s.takeAnswer (.rx Config.devAddr n (some (receivedBytes a n hn).toList)))
    else k none (s.takeAnswer (.rx Config.devAddr n none))

/-- Command-only write (R132). -/
def txCmd (s : State) (k : State → State) : State :=
  busTx (s.setSeq .txCmd) [s.cb] fun ok t => if ok then k t else t.raise .busTransferFailed

/-- Command+data write (R133): CB first, then DAC_DATA (R57). A DAC_DATA of none faults (R16); the
two commands that use this shape have just written it. -/
def txCmdData (s : State) (k : State → State) : State :=
  match s.dacData with
  | none => (s.faultAt .readUnwritten).idleSeq
  | some d =>
    busTx (s.setSeq .txCmdData) [s.cb, d] fun ok t =>
      if ok then k t else t.raise .busTransferFailed

/-- Stale-byte discard (R136): byte 0 goes nowhere, and byte k goes to position k-1. -/
def discardStale (n : Nat) (b : Vector Byte (n + 1)) : Vector Byte n :=
  Vector.ofFn fun j : Fin n => b[j.val + 1]

/-- Read-N (R134): a command-only write, then a receive of N+1 bytes, the first discarded. -/
def readN (s : State) (n : Nat) (hn : n ≤ 4) (k : Vector Byte n → State → State) : State :=
  txCmd s fun t =>
    busRx (t.setSeq .rx) (n + 1) (Nat.succ_le_succ hn) fun reply u =>
      match reply with
      | none => u.raise .busTransferFailed
      | some b => k (discardStale n b) u

/-- `commit(c, code)` (R152), with VREF read as `r`. -/
def commit (s : State) (r : Volt) (c : Channel) (code : Byte) : State :=
  s.setCache c code (codeToVoltage code r)

/-- The commit of four readings, in channel order 0 to 3 (R155, R159). -/
def commitAll (s : State) (r : Volt) (codes : Vector Byte 4) : State :=
  commit (commit (commit (commit s r 0 codes[0]) r 1 codes[1]) r 2 codes[2]) r 3 codes[3]

end Sys2Proof.Machine
end

