-- ==== Sys2Proof/Machine/SessionCommands.lean ====
section
/-! DEFINITION. The session commands (spec/43_session.md). -/

namespace Sys2Proof.Machine

/-- RES_CODE[0..3] alone. -/
def Results.ofCodes (codes : Vector Byte 4) : Results :=
  { Results.cleared with code := codes.map some }

/-- RES_VOLTS[0..3] alone. -/
def Results.ofVolts (volts : Vector Volt 4) : Results :=
  { Results.cleared with volts := volts.map some }

/-- INIT (R147). VREF is written before the readiness check (R146), CB after it (D12). -/
def execInit (enableDac : Byte) (inputMode : Nibble) (s : State) :
    Host.Outcome State Fault Refusal :=
  admitCommand s fun t =>
    withReference t t.vrefIn fun r =>
      busProbe ((t.setVref r).setSeq .probe) fun ready u =>
        if ready then
          txCmd (u.setCb (initCompose u.params.reinitPolicy u.cb (enableDacArg enableDac)
              (modeArg inputMode)))
            fun w => (w.setSession .ready).finish .ok
        else u.raise .deviceNotReady

/-- The path WRITE_RAW and WRITE_VOLTAGE share (R150, R151). -/
def writeDac (s : State) (code : Byte) : State :=
  txCmdData ((s.setCb (fnEnableDac s.cb true)).setDacData code) fun t => t.finish .ok

/-- WRITE_RAW (R150). -/
def execWriteRaw (code : Byte) (s : State) : Host.Outcome State Fault Refusal :=
  admitReady s fun t => writeDac t code

/-- WRITE_VOLTAGE (R151), with both clamps as written (D28). -/
def execWriteVoltage (s : State) : Host.Outcome State Fault Refusal :=
  admitReady s fun t =>
    withVin t fun v =>
      withReference t t.vref fun r =>
        writeDac t (voltageToCode t.params.roundMode (clampVolt v 0 r) r)

/-- What READ_CHANNEL_RAW and READ_CHANNEL_VOLTAGE share (R153, R154); `results` is the result line,
given the code and VREF. -/
def readChannel (s : State) (channel : Nibble) (results : Byte → Volt → Results) : State :=
  match fnSetChannel s.cb channel with
  | .error e => s.raise e
  | .ok cb =>
    readN (s.setCb cb) 1 (by decide) fun codes t =>
      withReference t t.vref fun r =>
        (commit (t.setSeq .commit) r (channelArg channel) codes[0]).finishWith (results codes[0] r)

/-- READ_CHANNEL_RAW (R153). -/
def execReadChannelRaw (channel : Nibble) (s : State) : Host.Outcome State Fault Refusal :=
  admitReady s fun t => readChannel t channel fun code _ => Results.ofByte code

/-- READ_CHANNEL_VOLTAGE (R154). -/
def execReadChannelVoltage (channel : Nibble) (s : State) : Host.Outcome State Fault Refusal :=
  admitReady s fun t => readChannel t channel fun code r => Results.ofVolt (codeToVoltage code r)

/-- `read_all` (R155), and the end of READ_ALL_RAW and READ_ALL_VOLTAGE; `results` is the result
line, given the codes and VREF. -/
def readAll (s : State) (results : Vector Byte 4 → Volt → Results) : State :=
  readN (s.setCb (fnClearAi s.cb)) 4 (by decide) fun codes t =>
    withReference t t.vref fun r =>
      (commitAll (t.setSeq .commit) r codes).finishWith (results codes r)

/-- READ_ALL_RAW (R156). -/
def execReadAllRaw (s : State) : Host.Outcome State Fault Refusal :=
  admitReady s fun t => readAll t fun codes _ => Results.ofCodes codes

/-- READ_ALL_VOLTAGE (R157). -/
def execReadAllVoltage (s : State) : Host.Outcome State Fault Refusal :=
  admitReady s fun t =>
    readAll t fun codes r => Results.ofVolts (codes.map fun code => codeToVoltage code r)

end Sys2Proof.Machine
end

