-- ==== Sys2Proof/Machine/Dispatch.lean ====
section
/-! DEFINITION. One arm per command (spec/30_encoding.md R79, R89). -/

namespace Sys2Proof.Machine

def exec (i : Instr) (s : State) : Host.Outcome State Fault Refusal :=
  match i with
  | .crSetChannel byte channel => Sys2Proof.Machine.execCrSetChannel byte channel s
  | .crSetInputMode byte mode => Sys2Proof.Machine.execCrSetInputMode byte mode s
  | .crEnableDac byte enabled => Sys2Proof.Machine.execCrEnableDac byte enabled s
  | .crSetAi byte => Sys2Proof.Machine.execCrSetAi byte s
  | .crClearAi byte => Sys2Proof.Machine.execCrClearAi byte s
  | .crDecode byte => Sys2Proof.Machine.execCrDecode byte s
  | .convC2v code => Sys2Proof.Machine.execConvC2v code s
  | .convV2c => Sys2Proof.Machine.execConvV2c s
  | .init enableDac inputMode => Sys2Proof.Machine.execInit enableDac inputMode s
  | .writeRaw code => Sys2Proof.Machine.execWriteRaw code s
  | .writeVoltage => Sys2Proof.Machine.execWriteVoltage s
  | .readChannelRaw channel => Sys2Proof.Machine.execReadChannelRaw channel s
  | .readChannelVoltage channel => Sys2Proof.Machine.execReadChannelVoltage channel s
  | .readAllRaw => Sys2Proof.Machine.execReadAllRaw s
  | .readAllVoltage => Sys2Proof.Machine.execReadAllVoltage s

end Sys2Proof.Machine
end

