-- ==== Sys2Proof/Machine/HostSpace.lean ====
section
/-! DEFINITION. The host register space (spec/20_memory.md R53, R54): the register map, and host
reads. -/

namespace Sys2Proof.Machine

/-- The registers of the host map (R53). -/
inductive Reg where
  | cmd | vin | vrefIn | status | resByte | resVolt | resCh | resAi | resMode | resDac
  | resCode (c : Channel)
  | resVolts (c : Channel)
  | session | cb | vref | dacData
  | lastRaw (c : Channel)
  | lastConv (c : Channel)
  deriving DecidableEq, Repr

/-- How the host may access a register (R53). -/
inductive RegAccess where
  | readWrite
  | readOnly
  | writeOnly
  deriving DecidableEq, Repr

/-- The registers of the map at 0x00 to 0x11 (R53). -/
def regMapOperands : List Reg :=
  [.cmd, .vin, .vrefIn, .status, .resByte, .resVolt, .resCh, .resAi, .resMode, .resDac,
   .resCode 0, .resCode 1, .resCode 2, .resCode 3,
   .resVolts 0, .resVolts 1, .resVolts 2, .resVolts 3]

/-- The registers of the map at 0x12 to 0x1D (R53). -/
def regMapSession : List Reg :=
  [.session, .cb, .vref, .dacData,
   .lastRaw 0, .lastRaw 1, .lastRaw 2, .lastRaw 3,
   .lastConv 0, .lastConv 1, .lastConv 2, .lastConv 3]

/-- The register map in index order: the register at index k is the k-th of the list (R53). Indices
past its end, 0x1E to 0xFF, are reserved. -/
def regMap : List Reg := regMapOperands ++ regMapSession

/-- The register at an index, none where the index is reserved (R53, R54). -/
def Reg.atIndex (index : Byte) : Option Reg := regMap[index.toNat]?

/-- The index of a register (R53). -/
def Reg.index : Reg → Byte
  | .cmd => 0x00
  | .vin => 0x01
  | .vrefIn => 0x02
  | .status => 0x03
  | .resByte => 0x04
  | .resVolt => 0x05
  | .resCh => 0x06
  | .resAi => 0x07
  | .resMode => 0x08
  | .resDac => 0x09
  | .resCode c => BitVec.ofNat 8 (0x0A + c.val)
  | .resVolts c => BitVec.ofNat 8 (0x0E + c.val)
  | .session => 0x12
  | .cb => 0x13
  | .vref => 0x14
  | .dacData => 0x15
  | .lastRaw c => BitVec.ofNat 8 (0x16 + c.val)
  | .lastConv c => BitVec.ofNat 8 (0x1A + c.val)

/-- The width of a register (R53). -/
def Reg.width : Reg → Width
  | .cmd => .bytes 2
  | .vin => .volt
  | .vrefIn => .volt
  | .status => .bytes 1
  | .resByte => .bytes 1
  | .resVolt => .volt
  | .resCh => .bytes 1
  | .resAi => .bytes 1
  | .resMode => .bytes 1
  | .resDac => .bytes 1
  | .resCode _ => .bytes 1
  | .resVolts _ => .volt
  | .session => .bytes 1
  | .cb => .bytes 1
  | .vref => .volt
  | .dacData => .bytes 1
  | .lastRaw _ => .bytes 1
  | .lastConv _ => .volt

/-- The access column of the map (R53). -/
def Reg.access : Reg → RegAccess
  | .cmd => .writeOnly
  | .vin => .readWrite
  | .vrefIn => .readWrite
  | .status => .readOnly
  | .resByte => .readOnly
  | .resVolt => .readOnly
  | .resCh => .readOnly
  | .resAi => .readOnly
  | .resMode => .readOnly
  | .resDac => .readOnly
  | .resCode _ => .readOnly
  | .resVolts _ => .readOnly
  | .session => .readOnly
  | .cb => .readOnly
  | .vref => .readOnly
  | .dacData => .readOnly
  | .lastRaw _ => .readOnly
  | .lastConv _ => .readOnly

/-- A one-byte host value, a narrower field zero-extended (R53). -/
def HostValue.ofBits {n : Nat} (v : BitVec n) : HostValue := .bytes 1 v.toNat

/-- The value a register holds, as the host reads it; none where it holds none, and for CMD, which
holds nothing (R53, R54). -/
def Reg.value (s : State) : Reg → Option HostValue
  | .cmd => none
  | .vin => s.vin.map .volt
  | .vrefIn => s.vrefIn.map .volt
  | .status => s.status.map fun st => HostValue.ofBits st.code
  | .resByte => s.results.byte.map .ofBits
  | .resVolt => s.results.volt.map .volt
  | .resCh => s.results.ch.map .ofBits
  | .resAi => s.results.ai.map fun b => HostValue.ofBits (BitVec.ofBool b)
  | .resMode => s.results.mode.map .ofBits
  | .resDac => s.results.dac.map fun b => HostValue.ofBits (BitVec.ofBool b)
  | .resCode c => s.results.code[c].map .ofBits
  | .resVolts c => s.results.volts[c].map .volt
  | .session => some (HostValue.ofBits s.session.code)
  | .cb => some (HostValue.ofBits s.cb)
  | .vref => s.vref.map .volt
  | .dacData => s.dacData.map .ofBits
  | .lastRaw c => some (HostValue.ofBits s.lastRaw[c])
  | .lastConv c => some (.volt s.lastConv[c])

/-- The width of a written value (R12). -/
def HostValue.width : HostValue → Width
  | .bytes n _ => .bytes n
  | .volt _ => .volt

/-- `MemRead(index, width)` with the checks of R54 in their order: reserved index, width, CMD; then
the value, or a fault where the register holds none (R16). -/
def hostRead (s : State) (index : Byte) (width : Width) : State :=
  match Reg.atIndex index with
  | none => s.refuse .reservedIndex
  | some r =>
    if width ≠ r.width then s.refuse .widthMismatch
    else if r.access = .writeOnly then s.refuse .writeOnly
    else match r.value s with
      | none => s.faultAt .readUnwritten
      | some v => s.reply v

end Sys2Proof.Machine
end

