-- ==== Sys2Proof/Machine/HostAccess.lean ====
section
/-! DEFINITION. Issuing a command (spec/30_encoding.md R89), host writes (spec/20_memory.md R54,
R55), and one host access. -/

namespace Sys2Proof.Machine

/-- `issue(W)` (R89): an illegal word is refused (R80, R81); another runs its command. -/
def issue (w : Word) (s : State) : Host.Outcome State Fault Refusal :=
  match decode w with
  | .ok i => exec i s
  | .error _ => .next (s.refuse .illegalCommand)

/-- A legal host write: CMD issues the command in the value's low 16 bits (log 12), VIN and VREF_IN
take any Volt (R55), and every other register is read-only. -/
def writeReg (s : State) (r : Reg) (v : HostValue) : Host.Outcome State Fault Refusal :=
  match r, v with
  | .cmd, .bytes _ w => issue (BitVec.ofNat 16 w) s
  | .vin, .volt q => .next (s.setVin q)
  | .vrefIn, .volt q => .next (s.setVrefIn q)
  | _, _ => .next (s.refuse .readOnly)

/-- `MemWrite(index, n, v)` with the checks of R54 in their order: reserved index, width, read-only
index. -/
def hostWrite (s : State) (index : Byte) (v : HostValue) : Host.Outcome State Fault Refusal :=
  match Reg.atIndex index with
  | none => .next (s.refuse .reservedIndex)
  | some r => if v.width ≠ r.width then .next (s.refuse .widthMismatch) else writeReg s r v

/-- One host access (R12). -/
def access (s : State) : HostAccess → Host.Outcome State Fault Refusal
  | .read index width => .next (hostRead s index width)
  | .write index value => hostWrite s index value

/-- The access that issues the command word `w`: `MemWrite(0x00, 2, w)` (R86). -/
def issueAccess (w : Word) : HostAccess := .write Reg.cmd.index (.bytes 2 w.toNat)

/-- The host's next access, if it has one (R93). With none left the block does nothing: it never
acts on its own initiative (R21; log 5). -/
def nextAccess (s : State) : Host.Outcome State Fault Refusal :=
  match s.host with
  | [] => .next s
  | a :: rest => access (s.setHost rest) a

/-- One step (R67, R93): a marked state ends the run with its reason (R50, R51; log 2), a command in
flight whose answer never came stays so (R143, R203; log 4), and otherwise the host makes its next
access. -/
def stepState (s : State) : Host.Outcome State Fault Refusal :=
  match s.fault with
  | some f => .fault f
  | none =>
    match s.refused with
    | some r => .refused r
    | none => if s.seq = .idle then nextAccess s else .fault .portNeverAnswers

/-- The host's next access issues the instruction word `w` of `nbits` bits (log 6). -/
def State.pushWord (s : State) (nbits w : Nat) : State :=
  s.setHost (issueAccess (BitVec.ofNat 16 (w % 2 ^ nbits)) :: s.host)

/-- A run's start (R93): the state `s` with the parameters, the port, the answers of it that a premise
fixes and the host's program loaded from outside (log 6). -/
def State.load (s : State) (p : Params) (portId : Nat) (port : List (Option PortAnswer))
    (program : List HostAccess) : State :=
  { s with params := p, portId := portId, port := port, host := program }

end Sys2Proof.Machine
end

