-- ==== Sys2Proof/Machine/Step.lean ====
section
/-! DEFINITION. The machine's step: one host access (spec/10_state.md R45, spec/20_memory.md
R67). -/

namespace Sys2Proof.Machine

/-- One step of the machine. -/
def step (s : State) : Host.Outcome State Fault Refusal := stepState s

/-- `s` with the instruction word `w` of `nbits` bits issued by the very next step. The block fetches
nothing (R48): what its next command is stands in the host's next access (log 6). -/
def State.withFetchWord (s : State) (nbits w : Nat) : State := s.pushWord nbits w

end Sys2Proof.Machine
end

