-- ==== Sys2Proof/Machine/Assembler.lean ====
section
/-! DEFINITION. The assembler (spec/30_encoding.md R85) and the host access syntax (R86). -/

namespace Sys2Proof.Machine

/-- The spelling of each mnemonic (R79). -/
def mnemonicName : Mnemonic → String
  | .crSetChannel => "CR_SET_CHANNEL"
  | .crSetInputMode => "CR_SET_INPUT_MODE"
  | .crEnableDac => "CR_ENABLE_DAC"
  | .crSetAi => "CR_SET_AI"
  | .crClearAi => "CR_CLEAR_AI"
  | .crDecode => "CR_DECODE"
  | .convC2v => "CONV_C2V"
  | .convV2c => "CONV_V2C"
  | .init => "INIT"
  | .writeRaw => "WRITE_RAW"
  | .writeVoltage => "WRITE_VOLTAGE"
  | .readChannelRaw => "READ_CHANNEL_RAW"
  | .readChannelVoltage => "READ_CHANNEL_VOLTAGE"
  | .readAllRaw => "READ_ALL_RAW"
  | .readAllVoltage => "READ_ALL_VOLTAGE"

/-- The mnemonics, in the order of the opcode map. -/
def allMnemonics : List Mnemonic := opcodeTable.map OpcodeRow.mnemonic

/-- A byte, code or `enable_dac` operand: 0 to 255, else an assembly error (R85). -/
def byteOperand (n : Nat) : Option Byte := if n ≤ 255 then some (BitVec.ofNat 8 n) else none

/-- A channel, mode or enabled operand: 0 to 15, else an assembly error (R85). -/
def nibbleOperand (n : Nat) : Option Nibble := if n ≤ 15 then some (BitVec.ofNat 4 n) else none

/-- A word from a mnemonic and its two fields, in operand order B, A. -/
def assembleFields (m : Mnemonic) (b a : Nat) : Option Word :=
  match byteOperand b, nibbleOperand a with
  | some b', some a' => some (packWord m.opcode a' b')
  | _, _ => none

/-- One assembled command (R85): the operands in the order of the assembler syntax; none is an
assembly error. CR_ENABLE_DAC with an `enabled` of 2 to 15 assembles A = enabled, an illegal word
(R81), and not a word with A[3:1] cleared: R85 says both that A is the operand and that must-be-zero
bits are written 0, and the first is the model's choice (log 20). -/
def assemble (m : Mnemonic) (operands : List Nat) : Option Word :=
  match m, operands with
  | .crSetChannel, [byte, channel] => assembleFields .crSetChannel byte channel
  | .crSetInputMode, [byte, mode] => assembleFields .crSetInputMode byte mode
  | .crEnableDac, [byte, enabled] => assembleFields .crEnableDac byte enabled
  | .crSetAi, [byte] => assembleFields .crSetAi byte 0
  | .crClearAi, [byte] => assembleFields .crClearAi byte 0
  | .crDecode, [byte] => assembleFields .crDecode byte 0
  | .convC2v, [code] => assembleFields .convC2v code 0
  | .convV2c, [] => assembleFields .convV2c 0 0
  | .init, [enableDac, inputMode] => assembleFields .init enableDac inputMode
  | .writeRaw, [code] => assembleFields .writeRaw code 0
  | .writeVoltage, [] => assembleFields .writeVoltage 0 0
  | .readChannelRaw, [channel] => assembleFields .readChannelRaw 0 channel
  | .readChannelVoltage, [channel] => assembleFields .readChannelVoltage 0 channel
  | .readAllRaw, [] => assembleFields .readAllRaw 0 0
  | .readAllVoltage, [] => assembleFields .readAllVoltage 0 0
  | _, _ => none

/-- The operands of a command, in the order of the assembler syntax (R85). -/
def instrOperands : Instr → List Nat
  | .crSetChannel byte channel => [byte.toNat, channel.toNat]
  | .crSetInputMode byte mode => [byte.toNat, mode.toNat]
  | .crEnableDac byte enabled => [byte.toNat, enabled.toNat]
  | .crSetAi byte => [byte.toNat]
  | .crClearAi byte => [byte.toNat]
  | .crDecode byte => [byte.toNat]
  | .convC2v code => [code.toNat]
  | .convV2c => []
  | .init enableDac inputMode => [enableDac.toNat, inputMode.toNat]
  | .writeRaw code => [code.toNat]
  | .writeVoltage => []
  | .readChannelRaw channel => [channel.toNat]
  | .readChannelVoltage channel => [channel.toNat]
  | .readAllRaw => []
  | .readAllVoltage => []

/-- A program line (R86). -/
inductive HostLine where
  /-- A command line, `MNEMONIC ...`. -/
  | command (m : Mnemonic) (operands : List Nat)
  /-- `WR VIN, v`. -/
  | wrVin (v : Volt)
  /-- `WR VREF_IN, v`. -/
  | wrVrefIn (v : Volt)
  /-- `RD name`. -/
  | rd (r : Reg)
  deriving DecidableEq, Repr

/-- The host access of a line (R86); none is an assembly error. -/
def HostLine.toAccess : HostLine → Option HostAccess
  | .command m operands => (assemble m operands).map issueAccess
  | .wrVin v => some (.write Reg.vin.index (.volt v))
  | .wrVrefIn v => some (.write Reg.vrefIn.index (.volt v))
  | .rd r => some (.read r.index r.width)

/-- A program's accesses (R93); none if any line is an assembly error. -/
def assembleProgram (lines : List HostLine) : Option (List HostAccess) :=
  lines.mapM HostLine.toAccess

/-- The value of a digit in a base up to 16. -/
def digitValue (base : Nat) (c : Char) : Option Nat :=
  let v :=
    if '0' ≤ c && c ≤ '9' then c.toNat - '0'.toNat
    else if 'a' ≤ c && c ≤ 'f' then c.toNat - 'a'.toNat + 10
    else if 'A' ≤ c && c ≤ 'F' then c.toNat - 'A'.toNat + 10
    else 16
  if v < base then some v else none

/-- The value of a list of digits, read onto `acc`. -/
def digitsValue (base : Nat) (acc : Nat) : List Char → Option Nat
  | [] => some acc
  | c :: cs =>
    match digitValue base c with
    | some d => digitsValue base (acc * base + d) cs
    | none => none

/-- A number: decimal, or hexadecimal after `0x` (R85). -/
def parseNumber : List Char → Option Nat
  | [] => none
  | '0' :: 'x' :: [] => none
  | '0' :: 'x' :: cs => digitsValue 16 0 cs
  | cs => digitsValue 10 0 cs

/-- The pieces of a text between separators. -/
def splitOn (sep : Char) : List Char → List (List Char)
  | [] => [[]]
  | c :: cs =>
    match splitOn sep cs with
    | [] => [[]]
    | p :: ps => if c = sep then [] :: p :: ps else (c :: p) :: ps

/-- A text without its leading blanks. -/
def dropBlanks (cs : List Char) : List Char := cs.dropWhile fun c => c = ' '

/-- A text without its leading and trailing blanks. -/
def trimBlanks (cs : List Char) : List Char := (dropBlanks (dropBlanks cs).reverse).reverse

/-- The operands of a command line: none, or numbers between commas, with blanks around them. A
blank inside a number is an assembly error (the model's choice, log 16). -/
def parseOperands (cs : List Char) : Option (List Nat) :=
  match trimBlanks cs with
  | [] => some []
  | ds => (splitOn ',' ds).mapM fun piece => parseNumber (trimBlanks piece)

/-- A command line as text (R85): the mnemonic, then after a blank its operands (log 16). -/
def parseCommand (line : List Char) : Option HostLine :=
  let name := line.takeWhile fun c => c ≠ ' '
  match allMnemonics.find? (fun m => (mnemonicName m).toList = name),
      parseOperands (line.dropWhile fun c => c ≠ ' ') with
  | some m, some operands => some (.command m operands)
  | _, _ => none

end Sys2Proof.Machine
end

