-- ==== Sys2Proof/Machine/Instances.lean ====
section
/-! DEFINITION. Several block instances (spec/00_scope.md R22, spec/60_exceptions.md R182): each has
its own state and its own Transport Port (log 18). -/

namespace Sys2Proof.Machine

/-- Every instance has a Transport Port of its own (R22; log 18). -/
abbrev ownPorts (ss : List State) : Prop := (ss.map State.portId).Nodup

/-- `n` instances just created (R186), each with its own port. -/
def newInstances (n : Nat) : List State :=
  (List.range n).map fun k => { State.reset with portId := k }

/-- One step of instance `k`. -/
def stepInstance (ss : List State) (k : Nat) (hk : k < ss.length) :
    Host.Outcome (List State) Fault Refusal :=
  match step ss[k] with
  | .next t => .next (ss.set k t)
  | .fault f => .fault f
  | .refused r => .refused r

end Sys2Proof.Machine
end

