-- ==== Sys2Proof/Safety.lean ====
section
/-! DEFINITION. What a run and a safe state are (spec/30_encoding.md R93; spec/10_state.md R51,
R52). -/

namespace Sys2Proof.Machine

/-- A state some run reaches: from reset, with any parameters, any port, any answers of it fixed
and any host program loaded, by steps (R93, R186). -/
inductive Reachable : State → Prop where
  | start (p : Params) (portId : Nat) (port : List (Option PortAnswer))
      (program : List HostAccess) : Reachable (State.reset.load p portId port program)
  | step {s t : State} (hs : Reachable s) (h : step s = .next t) : Reachable t

/-- A bus event has the block's address and a length the block issues (R56, R62, R131). -/
def BusEvent.legal : BusEvent → Bool
  | .probe addr _ => addr == Config.devAddr
  | .tx addr bytes _ => addr == Config.devAddr && (bytes.length == 1 || bytes.length == 2)
  | .rx addr n answer =>
    addr == Config.devAddr && (n == 2 || n == 5) &&
      (match answer with
       | some bytes => bytes.length == n
       | none => true)

/-- A PROBE, or the one-byte TX of an INIT (R52 item 2). -/
def BusEvent.ofInit : BusEvent → Bool
  | .probe _ _ => true
  | .tx _ bytes _ => bytes.length == 1
  | .rx _ _ _ => false

/-- A receive. -/
def BusEvent.isRx : BusEvent → Bool
  | .probe _ _ => false
  | .tx _ _ _ => false
  | .rx _ _ _ => true

/-- A transmit. -/
def BusEvent.isTx : BusEvent → Bool
  | .probe _ _ => false
  | .tx _ _ _ => true
  | .rx _ _ _ => false

/-- A successful command-only write. -/
def BusEvent.isCommandOk : BusEvent → Bool
  | .probe _ _ => false
  | .tx _ bytes ok => bytes.length == 1 && ok
  | .rx _ _ _ => false

/-- Every receive directly follows a successful command-only write (R135, R195). `prev` says whether
the event before the list was one. -/
def readsFollowCommand (prev : Bool) : List BusEvent → Bool
  | [] => true
  | e :: es => (!e.isRx || prev) && readsFollowCommand e.isCommandOk es

/-- What every reachable state satisfies: R52 with what its items rest on. -/
structure BlockInv (s : State) : Prop where
  /-- CB[7] = CB[3] = CB[2] = 0 (R52 item 1; R32, R34). -/
  cb_unused : s.cb &&& 0x8C = 0
  /-- Before the first good INIT the caches and DAC_DATA are as reset left them, CB[3:0] = 0, and
  TRACE holds only PROBE events and TX events of INIT (R52 item 2; R145). -/
  before_init : s.session = .uninitialized →
    s.lastRaw = #v[0, 0, 0, 0] ∧ s.lastConv = #v[0, 0, 0, 0] ∧ s.dacData = none ∧
      s.cb &&& 0x0F = 0 ∧ s.trace.all BusEvent.ofInit = true
  /-- VREF, once written, is above 0 (R35). -/
  vref_pos : ∀ r, s.vref = some r → 0 < r
  /-- In Ready, VREF holds a value (R35). -/
  ready_vref : s.session = .ready → s.vref.isSome = true
  /-- Each LAST_CONV[c] is the conversion of LAST_RAW[c] at some reference above 0 (R38, R52 item
  3). -/
  cache_converted : ∀ c : Channel, ∃ r : Volt, 0 < r ∧
    s.lastConv[c] = codeToVoltage s.lastRaw[c] r
  /-- TRACE holds only requests the block issues (R56, R62). -/
  trace_legal : s.trace.all BusEvent.legal = true
  /-- Each receive in TRACE directly follows a successful command-only write (R135). -/
  reads_follow : readsFollowCommand false s.trace = true
  /-- A result register holds a value only after a command that ended OK (R42). -/
  results_ok : s.results = Results.cleared ∨ s.status = some .ok
  /-- SEQ is IDLE, or a command in flight waits for a port that never answers (R44, R143). -/
  seq_waits : s.seq ≠ .commit
  /-- At most one mark is set: the run stops at the first (R93). -/
  one_mark : s.refused = none ∨ s.fault = none

/-- The state a command ends in that is neither refused nor faulted: its STATUS and results, the
phases it visited and the bus events it issued, each event with one port answer taken, and nothing
else changed (R89, R140, R141). -/
def commandEnd (s : State) (st : Status) (r : Results) (ps : List Phase) (evs : List BusEvent) :
    State :=
  { s with
    results := r, status := some st, seq := .idle, phases := s.phases ++ ps,
    trace := s.trace ++ evs, port := s.port.drop evs.length, draws := s.draws + evs.length }

/-- The state of an admitted command whose rule was refused: the result registers cleared (R91),
REFUSED set, nothing else changed (R15). -/
def commandRefused (s : State) (r : Refusal) : State :=
  { s with results := Results.cleared, seq := .idle, refused := some r }

/-- The state of an admitted command whose rule faulted (R15, R94). -/
def commandFaulted (s : State) (f : Fault) : State :=
  { s with results := Results.cleared, seq := .idle, fault := some f }

/-- The state of a command in flight whose answer never came (R143, R203): it stays in the last
phase of `ps`, the unanswered request not in TRACE (log 4). -/
def commandWaits (s : State) (p : Phase) (ps : List Phase) (evs : List BusEvent) : State :=
  { s with
    results := Results.cleared, seq := p, phases := s.phases ++ ps, trace := s.trace ++ evs,
    port := s.port.drop evs.length, draws := s.draws + evs.length }

/-- Two port answers differ at most in the stale leading byte (R136). -/
def sameAnswerButStale : Option PortAnswer → Option PortAnswer → Prop
  | some a, some b => a.ok = b.ok ∧ a.bytes.toList.tail = b.bytes.toList.tail
  | none, none => True
  | some _, none => False
  | none, some _ => False

/-- Two bus events differ at most in the stale leading byte of a receive (R136). -/
def sameEventButStale : BusEvent → BusEvent → Prop
  | .rx addr n (some bs), .rx addr' n' (some bs') => addr = addr' ∧ n = n' ∧ bs.tail = bs'.tail
  | e, e' => e = e'

/-- Two states that differ at most in stale leading bytes, to come at the port or recorded in TRACE:
every register and every other field is the same. -/
structure StaleTwins (s t : State) : Prop where
  port : List.Forall₂ sameAnswerButStale s.port t.port
  trace : List.Forall₂ sameEventButStale s.trace t.trace
  rest : t = { s with port := t.port, trace := t.trace }

end Sys2Proof.Machine
end

