-- ==== Sys2Proof/Certificates/Slice0/Obligations.lean ====
section
/-! DEFINITION. The statements for the provers. "The model's choice" names what rests on a log entry
(notes/assumptions) and not on a rule of the spec. Where a statement gives a command's whole next
state, the fields `port`, `draws` and `phases` in it are the model's own bookkeeping (logs 3 and 11)
and formalise no rule. -/

open Sys2Proof Sys2Proof.Machine

/-! ## Encoding -/

/-- The worked words of spec/30_encoding.md section 5 and spec/95_test_vectors.md decode to the
commands they stand for. The spec calls the last three words illegal; which of the two error names
each gets is the model's choice (log 17). -/
def Obligations.SpecWordsDecode : Prop :=
  decode 0x1340 = .ok (.crSetChannel 0x40 3) ∧
  decode 0x2542 = .ok (.crSetInputMode 0x42 5) ∧
  decode 0x3100 = .ok (.crEnableDac 0x00 1) ∧
  decode 0x40FB = .ok (.crSetAi 0xFB) ∧
  decode 0x50FF = .ok (.crClearAi 0xFF) ∧
  decode 0x6076 = .ok (.crDecode 0x76) ∧
  decode 0x7033 = .ok (.convC2v 51) ∧
  decode 0x8000 = .ok .convV2c ∧
  decode 0x9300 = .ok (.init 0 3) ∧
  decode 0xA080 = .ok (.writeRaw 128) ∧
  decode 0xB000 = .ok .writeVoltage ∧
  decode 0xC700 = .ok (.readChannelRaw 7) ∧
  decode 0xD200 = .ok (.readChannelVoltage 2) ∧
  decode 0xE000 = .ok .readAllRaw ∧
  decode 0xF000 = .ok .readAllVoltage ∧
  decode 0x3240 = .error .mustBeZero ∧
  decode 0x4140 = .error .mustBeZero ∧
  decode 0x0000 = .error .reservedOpcode

/-- Decoding the word of any well-formed command gives the command back, every operand at every
value its field admits. -/
def Obligations.DecodeOfEncode : Prop :=
  ∀ i : Instr, i.wellFormed = true → decode (encode i) = .ok i

/-- Every legal word is the word of the term it decodes to, so two words never decode to one term and
decode drops no bit. That a term keeps its ignored bits is the model's reading (log 15): words that
differ only in them are one command of the spec (R82) and two terms here. -/
def Obligations.EncodeOfDecode : Prop :=
  ∀ (w : Word) (i : Instr), decode w = .ok i → i.wellFormed = true ∧ encode i = w

/-- The mask-and-match decoding of R88 is decoding by fields: OP picks the command, and the
must-be-zero bits of its form (R76, R81) must be 0. Where the spec has the one outcome Illegal, the
split into two error names is the model's choice (log 17). -/
def Obligations.DecodeByFields : Prop :=
  ∀ w : Word, decode w =
    match (fieldOp w).toNat with
    | 0 => .error .reservedOpcode
    | 1 => .ok (.crSetChannel (fieldB w) (fieldA w))
    | 2 => .ok (.crSetInputMode (fieldB w) (fieldA w))
    | 3 => if fieldA w &&& 0xE = 0 then .ok (.crEnableDac (fieldB w) (fieldA w))
           else .error .mustBeZero
    | 4 => if fieldA w = 0 then .ok (.crSetAi (fieldB w)) else .error .mustBeZero
    | 5 => if fieldA w = 0 then .ok (.crClearAi (fieldB w)) else .error .mustBeZero
    | 6 => if fieldA w = 0 then .ok (.crDecode (fieldB w)) else .error .mustBeZero
    | 7 => if fieldA w = 0 then .ok (.convC2v (fieldB w)) else .error .mustBeZero
    | 8 => if fieldA w = 0 ∧ fieldB w = 0 then .ok .convV2c else .error .mustBeZero
    | 9 => .ok (.init (fieldB w) (fieldA w))
    | 10 => if fieldA w = 0 then .ok (.writeRaw (fieldB w)) else .error .mustBeZero
    | 11 => if fieldA w = 0 ∧ fieldB w = 0 then .ok .writeVoltage else .error .mustBeZero
    | 12 => if fieldB w = 0 then .ok (.readChannelRaw (fieldA w)) else .error .mustBeZero
    | 13 => if fieldB w = 0 then .ok (.readChannelVoltage (fieldA w)) else .error .mustBeZero
    | 14 => if fieldA w = 0 ∧ fieldB w = 0 then .ok .readAllRaw else .error .mustBeZero
    | _ => if fieldA w = 0 ∧ fieldB w = 0 then .ok .readAllVoltage else .error .mustBeZero

/-- Issuing a word with OP = 0, or with a 1 in a must-be-zero bit of its form (A[3:1] for EB, A for
B, B for CH, A and B for Z), is `refuse(IllegalCommand)`: REFUSED is set and no other state changes
(R80, R81). -/
def Obligations.IllegalWordsRefused : Prop :=
  ∀ (s : State) (w : Word),
    (fieldOp w = 0x0 ∨
      (fieldOp w = 0x3 ∧ fieldA w &&& 0xE ≠ 0) ∨
      ((fieldOp w = 0x4 ∨ fieldOp w = 0x5 ∨ fieldOp w = 0x6 ∨ fieldOp w = 0x7 ∨ fieldOp w = 0xA) ∧
        fieldA w ≠ 0) ∨
      ((fieldOp w = 0xC ∨ fieldOp w = 0xD) ∧ fieldB w ≠ 0) ∨
      ((fieldOp w = 0x8 ∨ fieldOp w = 0xB ∨ fieldOp w = 0xE ∨ fieldOp w = 0xF) ∧
        ¬ (fieldA w = 0 ∧ fieldB w = 0))) →
    issue w s = .next { s with refused := some .illegalCommand }

/-- Two commands of form MB or I that differ only in ignored bits have the same effect (the spec's
own inference, R82). -/
def Obligations.IgnoredBitsChangeNothing : Prop :=
  (∀ (b : Byte) (a a' : Nibble), a.extractLsb' 0 2 = a'.extractLsb' 0 2 →
    ∀ s, exec (.crSetInputMode b a) s = exec (.crSetInputMode b a') s) ∧
  (∀ (b b' : Byte) (a a' : Nibble), b.getLsbD 0 = b'.getLsbD 0 →
    a.extractLsb' 0 2 = a'.extractLsb' 0 2 → ∀ s, exec (.init b a) s = exec (.init b' a') s)

/-- The assembler gives each well-formed command's word from its operands, and gives no word for an
operand outside its limits. -/
def Obligations.AssemblerMatchesEncoder : Prop :=
  (∀ i : Instr, i.wellFormed = true → assemble i.mnemonic (instrOperands i) = some (encode i)) ∧
  (∀ byte a : Nat, 255 < byte →
    assemble .crSetChannel [byte, a] = none ∧ assemble .crSetInputMode [byte, a] = none ∧
    assemble .crEnableDac [byte, a] = none ∧ assemble .crSetAi [byte] = none ∧
    assemble .crClearAi [byte] = none ∧ assemble .crDecode [byte] = none ∧
    assemble .convC2v [byte] = none ∧ assemble .writeRaw [byte] = none ∧
    assemble .init [byte, a] = none) ∧
  (∀ b a : Nat, 15 < a →
    assemble .crSetChannel [b, a] = none ∧ assemble .crSetInputMode [b, a] = none ∧
    assemble .crEnableDac [b, a] = none ∧ assemble .init [b, a] = none ∧
    assemble .readChannelRaw [a] = none ∧ assemble .readChannelVoltage [a] = none)

/-! ## Control-byte functions -/

/-- R96: above 3 the channel argument fails; otherwise the result is `(b & 0xFC) | c`, whose bits
7:2 are those of b. -/
def Obligations.SetChannelFunction : Prop :=
  ∀ (b : Byte) (c : Nibble),
    (3 < c → fnSetChannel b c = .error .invalidChannel) ∧
    (c ≤ 3 → ∃ r, fnSetChannel b c = .ok r ∧ r = (b &&& 0xFC) ||| c.setWidth 8 ∧
      ∀ j, 2 ≤ j → r.getLsbD j = b.getLsbD j)

/-- R98 to R102: the other control-byte functions, as formulas and bit by bit. -/
def Obligations.ControlByteFunctions : Prop :=
  (∀ (b : Byte) (m : Nibble),
    fnSetInputMode b m = (b &&& 0xCF) ||| ((m &&& 0x3).setWidth 8 <<< 4) ∧
    ∀ j, j ≠ 4 → j ≠ 5 → (fnSetInputMode b m).getLsbD j = b.getLsbD j) ∧
  (∀ b : Byte, fnEnableDac b true = b ||| 0x40 ∧ fnEnableDac b false = b &&& 0xBF) ∧
  (∀ (b : Byte) (e : Bool) (j : Nat), j ≠ 6 → (fnEnableDac b e).getLsbD j = b.getLsbD j) ∧
  (∀ b : Byte, fnSetAi b = b ||| 0x04 ∧ fnClearAi b = b &&& 0xFB) ∧
  (∀ (b : Byte) (j : Nat), j ≠ 2 →
    (fnSetAi b).getLsbD j = b.getLsbD j ∧ (fnClearAi b).getLsbD j = b.getLsbD j) ∧
  (∀ b : Byte, fnDecode b =
    ⟨b.extractLsb' 0 2, b.getLsbD 2, b.extractLsb' 4 2, b.getLsbD 6⟩)

/-- Setting one field of a control byte sets that field and leaves the others and bits 7 and 3 (the
spec's own inference, R103). -/
def Obligations.FieldsAreIndependent : Prop :=
  ∀ b : Byte,
    (∀ c : Channel, ∃ r, fnSetChannel b (BitVec.ofNat 4 c.val) = .ok r ∧
      fnDecode r = { fnDecode b with channel := BitVec.ofNat 2 c.val } ∧
      r &&& 0x88 = b &&& 0x88) ∧
    (∀ m : Nibble,
      fnDecode (fnSetInputMode b m) = { fnDecode b with inputMode := m.extractLsb' 0 2 } ∧
      fnSetInputMode b m &&& 0x88 = b &&& 0x88) ∧
    (∀ e : Bool, fnDecode (fnEnableDac b e) = { fnDecode b with dacEnable := e } ∧
      fnEnableDac b e &&& 0x88 = b &&& 0x88) ∧
    (fnDecode (fnSetAi b) = { fnDecode b with autoIncrement := true } ∧
      fnSetAi b &&& 0x88 = b &&& 0x88) ∧
    (fnDecode (fnClearAi b) = { fnDecode b with autoIncrement := false } ∧
      fnClearAi b &&& 0x88 = b &&& 0x88)

/-- Composing and decoding a control byte are inverse up to the unused bits 7 and 3 (the spec's own
inference, R112). -/
def Obligations.ComposeDecodeRoundTrip : Prop :=
  (∀ (dac : Bool) (mode : BitVec 2) (ai : Bool) (ch : BitVec 2),
    fnDecode (fnCompose dac mode ai ch) = ⟨ch, ai, mode, dac⟩) ∧
  (∀ b : Byte, fnCompose (fnDecode b).dacEnable (fnDecode b).inputMode (fnDecode b).autoIncrement
    (fnDecode b).channel = b &&& 0x77)

/-- What INIT composes (R145): dac_enable and input_mode from its operands, and every other bit 0
under ZERO and that of CB under PRESERVE; so both policies agree where CB[3:0] = 0 and CB[7] = 0. -/
def Obligations.InitComposesControlByte : Prop :=
  (∀ (cb : Byte) (en : Bool) (mode : BitVec 2),
    initCompose .zero cb en mode = fnCompose en mode false 0) ∧
  (∀ (cb : Byte) (en : Bool) (mode : BitVec 2),
    initCompose .preserve cb en mode =
      (cb &&& 0x8F) ||| fnCompose en mode false 0) ∧
  (∀ (policy : ReinitPolicy) (cb : Byte) (en : Bool) (mode : BitVec 2), cb &&& 0x8F = 0 →
    initCompose policy cb en mode = fnCompose en mode false 0)

/-! ## Control-register commands -/

/-- R104: CR_SET_CHANNEL. -/
def Obligations.CrSetChannelRule : Prop :=
  (∀ (a : Nibble) (b : Byte), decode (packWord 0x1 a b) = .ok (.crSetChannel b a)) ∧
  (∀ (s : State) (b : Byte) (a : Nibble), a ≤ 3 →
    exec (.crSetChannel b a) s = .next (commandEnd s .ok
      { Results.cleared with byte := some ((b &&& 0xFC) ||| a.setWidth 8) } [.idle] [])) ∧
  (∀ (s : State) (b : Byte) (a : Nibble), 3 < a →
    exec (.crSetChannel b a) s =
      .next (commandEnd s .invalidChannel Results.cleared [.idle] []))

/-- R105: CR_SET_INPUT_MODE. -/
def Obligations.CrSetInputModeRule : Prop :=
  (∀ (a : Nibble) (b : Byte), decode (packWord 0x2 a b) = .ok (.crSetInputMode b a)) ∧
  (∀ (s : State) (b : Byte) (a : Nibble),
    exec (.crSetInputMode b a) s = .next (commandEnd s .ok
      { Results.cleared with
        byte := some ((b &&& 0xCF) ||| ((a &&& 0x3).setWidth 8 <<< 4)) } [.idle] []))

/-- R106: CR_ENABLE_DAC. -/
def Obligations.CrEnableDacRule : Prop :=
  (∀ (a : Nibble) (b : Byte), a ≤ 1 → decode (packWord 0x3 a b) = .ok (.crEnableDac b a)) ∧
  (∀ (a : Nibble) (b : Byte), 1 < a → ∃ e, decode (packWord 0x3 a b) = .error e) ∧
  (∀ (s : State) (b : Byte),
    exec (.crEnableDac b 1) s = .next (commandEnd s .ok
      { Results.cleared with byte := some (b ||| 0x40) } [.idle] [])) ∧
  (∀ (s : State) (b : Byte),
    exec (.crEnableDac b 0) s = .next (commandEnd s .ok
      { Results.cleared with byte := some (b &&& 0xBF) } [.idle] []))

/-- R107: CR_SET_AI. -/
def Obligations.CrSetAiRule : Prop :=
  (∀ b : Byte, decode (packWord 0x4 0 b) = .ok (.crSetAi b)) ∧
  (∀ (s : State) (b : Byte), exec (.crSetAi b) s = .next (commandEnd s .ok
    { Results.cleared with byte := some (b ||| 0x04) } [.idle] []))

/-- R108: CR_CLEAR_AI. -/
def Obligations.CrClearAiRule : Prop :=
  (∀ b : Byte, decode (packWord 0x5 0 b) = .ok (.crClearAi b)) ∧
  (∀ (s : State) (b : Byte), exec (.crClearAi b) s = .next (commandEnd s .ok
    { Results.cleared with byte := some (b &&& 0xFB) } [.idle] []))

/-- R109: CR_DECODE. -/
def Obligations.CrDecodeRule : Prop :=
  (∀ b : Byte, decode (packWord 0x6 0 b) = .ok (.crDecode b)) ∧
  (∀ (s : State) (b : Byte), exec (.crDecode b) s = .next (commandEnd s .ok
    { Results.cleared with
      ch := some (b.extractLsb' 0 2), ai := some (b.getLsbD 2),
      mode := some (b.extractLsb' 4 2), dac := some (b.getLsbD 6) } [.idle] []))

/-! ## Voltage converter -/

/-- R113: `code_to_voltage`. -/
def Obligations.CodeToVoltageFunction : Prop :=
  (∀ (c : Byte) (r : Volt), codeToVoltage c r = c.toNat * r / 255) ∧
  (∀ r : Volt, codeToVoltage 0 r = 0 ∧ codeToVoltage 255 r = r)

/-- R114: for a reference above 0, `voltage_to_code` is round8 of `(clamp(v, 0, r) / r) * 255`, which
lies in 0 to 255; the byte is that very integer. -/
def Obligations.VoltageToCodeFunction : Prop :=
  ∀ (m : RoundMode) (v r : Volt), 0 < r →
    0 ≤ min (max v 0) r / r * 255 ∧ min (max v 0) r / r * 255 ≤ 255 ∧
    ((voltageToCode m v r).toNat : Int) = round8 m (min (max v 0) r / r * 255)

/-- R115: a voltage at or above the reference gives 255, one at or below 0 gives 0, and clamping
leaves a voltage within the range unchanged. -/
def Obligations.ConverterClamps : Prop :=
  (∀ (m : RoundMode) (v r : Volt), 0 < r → r ≤ v → voltageToCode m v r = 255) ∧
  (∀ (m : RoundMode) (v r : Volt), 0 < r → v ≤ 0 → voltageToCode m v r = 0) ∧
  (∀ v r : Volt, 0 ≤ r → (r < v → clampVolt v 0 r = r) ∧ (v < 0 → clampVolt v 0 r = 0) ∧
    (0 ≤ v → v ≤ r → clampVolt v 0 r = v))

/-- R116: round8 is the nearest integer; HALF_UP, the default, is `floor(x + 1/2)`, HALF_EVEN takes a
tie to the even neighbour; the two differ only at ties, and the result is in 0 to 255. -/
def Obligations.RoundingModes : Prop :=
  Config.defaults.roundMode = .halfUp ∧ ∀ x : Volt, 0 ≤ x → x ≤ 255 →
    (∀ m, |(round8 m x : Volt) - x| ≤ 1 / 2 ∧ 0 ≤ round8 m x ∧ round8 m x ≤ 255) ∧
    round8 .halfUp x = (x + 1 / 2).floor ∧
    (∀ n : Int, x = n + 1 / 2 → Even (round8 .halfEven x)) ∧
    (round8 .halfUp x ≠ round8 .halfEven x → ∃ n : Int, x = n + 1 / 2)

/-- Code to voltage and back gives the code again, for every reference above 0 and both rounding
modes (the spec's own inference, R119). -/
def Obligations.CodeRoundTrip : Prop :=
  ∀ (m : RoundMode) (c : Byte) (r : Volt), 0 < r → voltageToCode m (codeToVoltage c r) r = c

/-- Voltage to code and back is within half a code step (the spec's own inference, R120). -/
def Obligations.VoltageRoundTrip : Prop :=
  ∀ (m : RoundMode) (v r : Volt), 0 < r → 0 ≤ v → v ≤ r →
    |codeToVoltage (voltageToCode m v r) r - v| ≤ r / 510

/-- `code_to_voltage` is strictly increasing, `voltage_to_code` non-decreasing, and clamping first
changes nothing (the spec's own inference, R121). -/
def Obligations.ConverterIsMonotone : Prop :=
  (∀ (c d : Byte) (r : Volt), 0 < r → c < d → codeToVoltage c r < codeToVoltage d r) ∧
  (∀ (m : RoundMode) (v w r : Volt), 0 < r → v ≤ w → voltageToCode m v r ≤ voltageToCode m w r) ∧
  (∀ (m : RoundMode) (v r : Volt), 0 < r →
    voltageToCode m (clampVolt v 0 r) r = voltageToCode m v r)

/-- R122: CONV_C2V. That the result registers are cleared on the fault and on the refusal is the
model's reading (log 9). -/
def Obligations.ConvC2vRule : Prop :=
  (∀ b : Byte, decode (packWord 0x7 0 b) = .ok (.convC2v b)) ∧
  (∀ (s : State) (b : Byte) (r : Volt), s.vrefIn = some r → 0 < r →
    exec (.convC2v b) s = .next (commandEnd s .ok
      { Results.cleared with volt := some (codeToVoltage b r) } [.idle] [])) ∧
  (∀ (s : State) (b : Byte), s.vrefIn = none →
    exec (.convC2v b) s = .next (commandFaulted s .readUnwritten)) ∧
  (∀ (s : State) (b : Byte) (r : Volt), s.vrefIn = some r → r ≤ 0 →
    exec (.convC2v b) s = .next (commandRefused s .nonPositiveReference))

/-- R123: CONV_V2C, VIN read before VREF_IN. That the result registers are cleared on the fault and
on the refusal is the model's reading (log 9). -/
def Obligations.ConvV2cRule : Prop :=
  decode 0x8000 = .ok .convV2c ∧
  (∀ (s : State) (v r : Volt), s.vin = some v → s.vrefIn = some r → 0 < r →
    exec .convV2c s = .next (commandEnd s .ok
      { Results.cleared with byte := some (voltageToCode s.params.roundMode v r) } [.idle] [])) ∧
  (∀ s : State, s.vin = none → exec .convV2c s = .next (commandFaulted s .readUnwritten)) ∧
  (∀ (s : State) (v : Volt), s.vin = some v → s.vrefIn = none →
    exec .convV2c s = .next (commandFaulted s .readUnwritten)) ∧
  (∀ (s : State) (v r : Volt), s.vin = some v → s.vrefIn = some r → r ≤ 0 →
    exec .convV2c s = .next (commandRefused s .nonPositiveReference))

/-! ## Session commands -/

/-- R147: INIT. Where the port never answers, see NeverAnsweringPortHangs. -/
def Obligations.InitRule : Prop :=
  (∀ (a : Nibble) (b : Byte), decode (packWord 0x9 a b) = .ok (.init b a)) ∧
  (∀ (s : State) (b : Byte) (a : Nibble), s.vrefIn = none →
    exec (.init b a) s = .next (commandFaulted s .readUnwritten)) ∧
  (∀ (s : State) (b : Byte) (a : Nibble) (r : Volt), s.vrefIn = some r → r ≤ 0 →
    exec (.init b a) s = .next (commandRefused s .nonPositiveReference)) ∧
  (∀ (s : State) (b : Byte) (a : Nibble) (r : Volt) (p : PortAnswer),
    s.vrefIn = some r → 0 < r → s.answerAt 0 = some p → p.ok = false →
    exec (.init b a) s = .next
      { commandEnd s .deviceNotReady Results.cleared [.probe, .idle] [.probe 0x48 false] with
        vref := some r }) ∧
  (∀ (s : State) (b : Byte) (a : Nibble) (r : Volt) (p q : PortAnswer),
    s.vrefIn = some r → 0 < r → s.answerAt 0 = some p → p.ok = true →
    s.answerAt 1 = some q → q.ok = false →
    exec (.init b a) s = .next
      { commandEnd s .busTransferFailed Results.cleared [.probe, .txCmd, .idle]
          [.probe 0x48 true, .tx 0x48 [initCompose s.params.reinitPolicy s.cb (b.getLsbD 0)
            (a.extractLsb' 0 2)] false] with
        vref := some r,
        cb := initCompose s.params.reinitPolicy s.cb (b.getLsbD 0) (a.extractLsb' 0 2) }) ∧
  (∀ (s : State) (b : Byte) (a : Nibble) (r : Volt) (p q : PortAnswer),
    s.vrefIn = some r → 0 < r → s.answerAt 0 = some p → p.ok = true →
    s.answerAt 1 = some q → q.ok = true →
    exec (.init b a) s = .next
      { commandEnd s .ok Results.cleared [.probe, .txCmd, .idle]
          [.probe 0x48 true, .tx 0x48 [initCompose s.params.reinitPolicy s.cb (b.getLsbD 0)
            (a.extractLsb' 0 2)] true] with
        vref := some r, session := .ready,
        cb := initCompose s.params.reinitPolicy s.cb (b.getLsbD 0) (a.extractLsb' 0 2) })

/-- R150: WRITE_RAW. -/
def Obligations.WriteRawRule : Prop :=
  (∀ b : Byte, decode (packWord 0xA 0 b) = .ok (.writeRaw b)) ∧
  (∀ (s : State) (b : Byte) (p : PortAnswer), s.session = .ready → s.answerAt 0 = some p →
    exec (.writeRaw b) s = .next
      { commandEnd s (if p.ok then .ok else .busTransferFailed) Results.cleared
          [.txCmdData, .idle] [.tx 0x48 [s.cb ||| 0x40, b] p.ok] with
        cb := s.cb ||| 0x40, dacData := some b })

/-- R151: WRITE_VOLTAGE. In Ready VREF is above 0 in every state that meets the invariant (R35,
StepKeepsInvariant); the last clause, a reference that holds none or is not above 0, is the model's
choice for the others (log 10). -/
def Obligations.WriteVoltageRule : Prop :=
  decode 0xB000 = .ok .writeVoltage ∧
  (∀ (s : State) (v r : Volt) (p : PortAnswer), s.session = .ready → s.vin = some v →
    s.vref = some r → 0 < r → s.answerAt 0 = some p →
    exec .writeVoltage s = .next
      { commandEnd s (if p.ok then .ok else .busTransferFailed) Results.cleared
          [.txCmdData, .idle]
          [.tx 0x48 [s.cb ||| 0x40,
            voltageToCode s.params.roundMode (clampVolt v 0 r) r] p.ok] with
        cb := s.cb ||| 0x40,
        dacData := some (voltageToCode s.params.roundMode (clampVolt v 0 r) r) }) ∧
  (∀ s : State, s.session = .ready → s.vin = none →
    exec .writeVoltage s = .next (commandFaulted s .readUnwritten)) ∧
  (∀ (s : State) (v : Volt), s.session = .ready → s.vin = some v →
    (s.vref = none → exec .writeVoltage s = .next (commandFaulted s .readUnwritten)) ∧
    (∀ r, s.vref = some r → r ≤ 0 →
      exec .writeVoltage s = .next (commandRefused s .nonPositiveReference)))

/-- The failure paths READ_CHANNEL_RAW and READ_CHANNEL_VOLTAGE share (R153, R154, R137): an invalid
channel writes nothing but STATUS and issues no bus event; a failed transmit issues no receive; a
failed receive caches nothing. CB keeps the new channel after a failed transfer. -/
def Obligations.ReadChannelFailures : Prop :=
  ∀ (s : State) (i : Nibble → Instr), (i = .readChannelRaw ∨ i = .readChannelVoltage) →
    s.session = .ready →
    (∀ a : Nibble, 3 < a →
      exec (i a) s = .next (commandEnd s .invalidChannel Results.cleared [.idle] [])) ∧
    (∀ (a : Nibble) (p : PortAnswer), a ≤ 3 → s.answerAt 0 = some p → p.ok = false →
      exec (i a) s = .next
        { commandEnd s .busTransferFailed Results.cleared [.txCmd, .idle]
            [.tx 0x48 [(s.cb &&& 0xFC) ||| a.setWidth 8] false] with
          cb := (s.cb &&& 0xFC) ||| a.setWidth 8 }) ∧
    (∀ (a : Nibble) (p q : PortAnswer), a ≤ 3 → s.answerAt 0 = some p → p.ok = true →
      s.answerAt 1 = some q → q.ok = false →
      exec (i a) s = .next
        { commandEnd s .busTransferFailed Results.cleared [.txCmd, .rx, .idle]
            [.tx 0x48 [(s.cb &&& 0xFC) ||| a.setWidth 8] true, .rx 0x48 2 none] with
          cb := (s.cb &&& 0xFC) ||| a.setWidth 8 })

/-- R153, its success path: READ_CHANNEL_RAW of channel c. Received byte 0 is in TRACE alone. In
Ready VREF is above 0 in every state that meets the invariant (R35, StepKeepsInvariant). -/
def Obligations.ReadChannelRawCompletes : Prop :=
  (∀ a : Nibble, decode (packWord 0xC a 0) = .ok (.readChannelRaw a)) ∧
  (∀ (s : State) (c : Channel) (r : Volt) (p q : PortAnswer), s.session = .ready →
    s.vref = some r → 0 < r → s.answerAt 0 = some p → p.ok = true →
    s.answerAt 1 = some q → q.ok = true →
    exec (.readChannelRaw (BitVec.ofNat 4 c.val)) s = .next
      { commandEnd s .ok { Results.cleared with byte := some q.bytes[1] }
          [.txCmd, .rx, .commit, .idle]
          [.tx 0x48 [(s.cb &&& 0xFC) ||| BitVec.ofNat 8 c.val] true,
           .rx 0x48 2 (some [q.bytes[0], q.bytes[1]])] with
        cb := (s.cb &&& 0xFC) ||| BitVec.ofNat 8 c.val,
        lastRaw := s.lastRaw.set c q.bytes[1],
        lastConv := s.lastConv.set c (codeToVoltage q.bytes[1] r) })

/-- R154, its success path: READ_CHANNEL_VOLTAGE of channel c. -/
def Obligations.ReadChannelVoltageCompletes : Prop :=
  (∀ a : Nibble, decode (packWord 0xD a 0) = .ok (.readChannelVoltage a)) ∧
  (∀ (s : State) (c : Channel) (r : Volt) (p q : PortAnswer), s.session = .ready →
    s.vref = some r → 0 < r → s.answerAt 0 = some p → p.ok = true →
    s.answerAt 1 = some q → q.ok = true →
    exec (.readChannelVoltage (BitVec.ofNat 4 c.val)) s = .next
      { commandEnd s .ok { Results.cleared with volt := some (codeToVoltage q.bytes[1] r) }
          [.txCmd, .rx, .commit, .idle]
          [.tx 0x48 [(s.cb &&& 0xFC) ||| BitVec.ofNat 8 c.val] true,
           .rx 0x48 2 (some [q.bytes[0], q.bytes[1]])] with
        cb := (s.cb &&& 0xFC) ||| BitVec.ofNat 8 c.val,
        lastRaw := s.lastRaw.set c q.bytes[1],
        lastConv := s.lastConv.set c (codeToVoltage q.bytes[1] r) })

/-- The failure paths READ_ALL_RAW and READ_ALL_VOLTAGE share (R155 to R157, R137). -/
def Obligations.ReadAllFailures : Prop :=
  ∀ (s : State) (i : Instr), (i = .readAllRaw ∨ i = .readAllVoltage) → s.session = .ready →
    (∀ p : PortAnswer, s.answerAt 0 = some p → p.ok = false →
      exec i s = .next
        { commandEnd s .busTransferFailed Results.cleared [.txCmd, .idle]
            [.tx 0x48 [s.cb &&& 0xFB] false] with
          cb := s.cb &&& 0xFB }) ∧
    (∀ p q : PortAnswer, s.answerAt 0 = some p → p.ok = true →
      s.answerAt 1 = some q → q.ok = false →
      exec i s = .next
        { commandEnd s .busTransferFailed Results.cleared [.txCmd, .rx, .idle]
            [.tx 0x48 [s.cb &&& 0xFB] true, .rx 0x48 5 none] with
          cb := s.cb &&& 0xFB })

/-- R156, its success path: READ_ALL_RAW. Received bytes 1 to 4 go to channels 0 to 3, and byte 0 is
in TRACE alone. -/
def Obligations.ReadAllRawCompletes : Prop :=
  decode 0xE000 = .ok .readAllRaw ∧
  (∀ (s : State) (r : Volt) (p q : PortAnswer), s.session = .ready →
    s.vref = some r → 0 < r → s.answerAt 0 = some p → p.ok = true →
    s.answerAt 1 = some q → q.ok = true →
    exec .readAllRaw s = .next
      { commandEnd s .ok
          { Results.cleared with
            code := #v[some q.bytes[1], some q.bytes[2], some q.bytes[3], some q.bytes[4]] }
          [.txCmd, .rx, .commit, .idle]
          [.tx 0x48 [s.cb &&& 0xFB] true, .rx 0x48 5 (some q.bytes.toList)] with
        cb := s.cb &&& 0xFB,
        lastRaw := #v[q.bytes[1], q.bytes[2], q.bytes[3], q.bytes[4]],
        lastConv := #v[codeToVoltage q.bytes[1] r, codeToVoltage q.bytes[2] r,
          codeToVoltage q.bytes[3] r, codeToVoltage q.bytes[4] r] })

/-- R157, its success path: READ_ALL_VOLTAGE. -/
def Obligations.ReadAllVoltageCompletes : Prop :=
  decode 0xF000 = .ok .readAllVoltage ∧
  (∀ (s : State) (r : Volt) (p q : PortAnswer), s.session = .ready →
    s.vref = some r → 0 < r → s.answerAt 0 = some p → p.ok = true →
    s.answerAt 1 = some q → q.ok = true →
    exec .readAllVoltage s = .next
      { commandEnd s .ok
          { Results.cleared with
            volts := #v[some (codeToVoltage q.bytes[1] r), some (codeToVoltage q.bytes[2] r),
              some (codeToVoltage q.bytes[3] r), some (codeToVoltage q.bytes[4] r)] }
          [.txCmd, .rx, .commit, .idle]
          [.tx 0x48 [s.cb &&& 0xFB] true, .rx 0x48 5 (some q.bytes.toList)] with
        cb := s.cb &&& 0xFB,
        lastRaw := #v[q.bytes[1], q.bytes[2], q.bytes[3], q.bytes[4]],
        lastConv := #v[codeToVoltage q.bytes[1] r, codeToVoltage q.bytes[2] r,
          codeToVoltage q.bytes[3] r, codeToVoltage q.bytes[4] r] })

/-- R158: an invalid channel on either READ_CHANNEL command writes nothing but STATUS (the result
registers are cleared at admission, R91) and issues zero bus events. -/
def Obligations.InvalidChannelBeforeBus : Prop :=
  ∀ (s : State) (a : Nibble) (i : Instr), 3 < a →
    (i = .readChannelRaw a ∨ i = .readChannelVoltage a) → s.session = .ready →
    exec i s = .next { s with
      results := Results.cleared, status := some .invalidChannel, seq := .idle,
      phases := s.phases ++ [.idle] }

/-- A port that never answers leaves the command in its phase, for every session command (R143, R203).
That the unanswered request is not in TRACE, and that the step from such a state stops with a named
fault, are the model's choices (log 4). -/
def Obligations.NeverAnsweringPortHangs : Prop :=
  (∀ (s : State) (b : Byte) (a : Nibble) (r : Volt), s.vrefIn = some r → 0 < r →
    (s.answerAt 0 = none →
      exec (.init b a) s = .next { commandWaits s .probe [.probe] [] with vref := some r }) ∧
    (∀ p : PortAnswer, s.answerAt 0 = some p → p.ok = true → s.answerAt 1 = none →
      exec (.init b a) s = .next
        { commandWaits s .txCmd [.probe, .txCmd] [.probe 0x48 true] with
          vref := some r,
          cb := initCompose s.params.reinitPolicy s.cb (b.getLsbD 0) (a.extractLsb' 0 2) })) ∧
  (∀ (s : State) (b : Byte), s.session = .ready → s.answerAt 0 = none →
    exec (.writeRaw b) s = .next
      { commandWaits s .txCmdData [.txCmdData] [] with
        cb := s.cb ||| 0x40, dacData := some b }) ∧
  (∀ (s : State) (v r : Volt), s.session = .ready → s.vin = some v → s.vref = some r → 0 < r →
    s.answerAt 0 = none →
    exec .writeVoltage s = .next
      { commandWaits s .txCmdData [.txCmdData] [] with
        cb := s.cb ||| 0x40,
        dacData := some (voltageToCode s.params.roundMode (clampVolt v 0 r) r) }) ∧
  (∀ (s : State) (i : Instr), (i = .readAllRaw ∨ i = .readAllVoltage) → s.session = .ready →
    (s.answerAt 0 = none → exec i s = .next
      { commandWaits s .txCmd [.txCmd] [] with cb := s.cb &&& 0xFB }) ∧
    (∀ p : PortAnswer, s.answerAt 0 = some p → p.ok = true → s.answerAt 1 = none →
      exec i s = .next
        { commandWaits s .rx [.txCmd, .rx] [.tx 0x48 [s.cb &&& 0xFB] true] with
          cb := s.cb &&& 0xFB })) ∧
  (∀ (s : State) (a : Nibble) (i : Instr), a ≤ 3 →
    (i = .readChannelRaw a ∨ i = .readChannelVoltage a) → s.session = .ready →
    (s.answerAt 0 = none → exec i s = .next
      { commandWaits s .txCmd [.txCmd] [] with cb := (s.cb &&& 0xFC) ||| a.setWidth 8 }) ∧
    (∀ p : PortAnswer, s.answerAt 0 = some p → p.ok = true → s.answerAt 1 = none →
      exec i s = .next
        { commandWaits s .rx [.txCmd, .rx]
            [.tx 0x48 [(s.cb &&& 0xFC) ||| a.setWidth 8] true] with
          cb := (s.cb &&& 0xFC) ||| a.setWidth 8 })) ∧
  (∀ s : State, s.fault = none → s.refused = none → s.seq ≠ .idle →
    step s = .fault .portNeverAnswers)

/-- R90: while SESSION is Uninitialized every session command but INIT is
`refuse(NotInitialized)`: REFUSED is set, no other state changes and no bus event is issued. INIT and
every pure command are admitted in both states. -/
def Obligations.SessionGate : Prop :=
  (∀ (i : Instr) (s : State), i.mnemonic.cls = .session → i.mnemonic ≠ .init →
    s.session = .uninitialized →
    exec i s = .next { s with refused := some .notInitialized }) ∧
  (∀ (i : Instr) (s t : State), (i.mnemonic.cls = .pure ∨ i.mnemonic = .init) →
    s.refused = none → exec i s = .next t → t.refused ≠ some .notInitialized)

/-! ## Whole-machine rules -/

/-- A step whose host access issues a word that decodes to i runs i, the access taken. -/
def Obligations.StepRunsDecodedCommand : Prop :=
  (∀ (s : State) (w : Word) (i : Instr) (rest : List HostAccess), s.fault = none →
    s.refused = none → s.seq = .idle →
    s.host = .write 0x00 (.bytes 2 w.toNat) :: rest → decode w = .ok i →
    step s = exec i { s with host := rest }) ∧
  (∀ (s : State) (nbits w : Nat) (i : Instr), s.fault = none → s.refused = none →
    s.seq = .idle → decodeTableWord nbits w = some i → step (s.withFetchWord nbits w) = exec i s)

/-- A marked state is the end of its run (R50, R51, R93), and with no host access left the block does
nothing (R21). That the step then stops with the mark's reason is the model's choice (log 2), and so
is the idle step (log 5). -/
def Obligations.MarkedRunStops : Prop :=
  (∀ (s : State) (f : Fault), s.fault = some f → step s = .fault f) ∧
  (∀ (s : State) (r : Refusal), s.fault = none → s.refused = some r → step s = .refused r) ∧
  (∀ s : State, s.fault = none → s.refused = none → s.seq = .idle → s.host = [] →
    step s = .next s)

/-- Every step only appends to TRACE (R46). It takes the host's next access and no other, and changes
neither the parameters nor the port an instance has: these speak of the model's own fields `host`,
`params` and `portId`, and are the model's choice (logs 5, 7 and 18). -/
def Obligations.StepTakesOneAccess : Prop :=
  ∀ s t : State, step s = .next t →
    t.host = s.host.tail ∧ t.params = s.params ∧ t.portId = s.portId ∧
      ∃ evs, t.trace = s.trace ++ evs

/-- R187 with R24: every register's reset value. -/
def Obligations.ResetRegisters : Prop :=
  State.reset.session = .uninitialized ∧ State.reset.cb = 0x00 ∧
  State.reset.lastRaw = #v[0, 0, 0, 0] ∧ State.reset.lastConv = #v[0, 0, 0, 0] ∧
  State.reset.seq = .idle ∧ State.reset.trace = [] ∧
  State.reset.refused = none ∧ State.reset.fault = none ∧
  State.reset.vref = none ∧ State.reset.dacData = none ∧ State.reset.vin = none ∧
  State.reset.vrefIn = none ∧ State.reset.status = none ∧
  State.reset.results.byte = none ∧ State.reset.results.volt = none ∧
  State.reset.results.ch = none ∧ State.reset.results.ai = none ∧
  State.reset.results.mode = none ∧ State.reset.results.dac = none ∧
  (∀ c : Channel, State.reset.results.code[c] = none ∧ State.reset.results.volts[c] = none)

/-- The STATUS encoding of spec/60_exceptions.md section 1, and what the host reads of it. That the
value read is appended to `replies` is the model's choice (log 5). -/
def Obligations.StatusEncoding : Prop :=
  Status.ok.code = 0 ∧ Status.deviceNotReady.code = 1 ∧ Status.busTransferFailed.code = 2 ∧
  Status.invalidChannel.code = 3 ∧
  (∀ (s : State) (st : Status), s.status = some st →
    hostRead s 0x03 (.bytes 1) = { s with replies := s.replies ++ [.bytes 1 st.code.toNat] })

/-- R53: index, width and access of every register of the host map, the reserved indices, the value
each register shows the host, and that a write of CMD issues a command. -/
def Obligations.HostRegisterMap : Prop :=
  (∀ e ∈ ([(Reg.cmd, 0x00, .bytes 2, .writeOnly), (Reg.vin, 0x01, .volt, .readWrite),
      (Reg.vrefIn, 0x02, .volt, .readWrite), (Reg.status, 0x03, .bytes 1, .readOnly),
      (Reg.resByte, 0x04, .bytes 1, .readOnly), (Reg.resVolt, 0x05, .volt, .readOnly),
      (Reg.resCh, 0x06, .bytes 1, .readOnly), (Reg.resAi, 0x07, .bytes 1, .readOnly),
      (Reg.resMode, 0x08, .bytes 1, .readOnly), (Reg.resDac, 0x09, .bytes 1, .readOnly),
      (Reg.session, 0x12, .bytes 1, .readOnly), (Reg.cb, 0x13, .bytes 1, .readOnly),
      (Reg.vref, 0x14, .volt, .readOnly), (Reg.dacData, 0x15, .bytes 1, .readOnly)] :
        List (Reg × Byte × Width × RegAccess)),
    Reg.atIndex e.2.1 = some e.1 ∧ e.1.width = e.2.2.1 ∧ e.1.access = e.2.2.2) ∧
  (∀ c : Channel,
    Reg.atIndex (0x0A + BitVec.ofNat 8 c.val) = some (.resCode c) ∧
    Reg.atIndex (0x0E + BitVec.ofNat 8 c.val) = some (.resVolts c) ∧
    Reg.atIndex (0x16 + BitVec.ofNat 8 c.val) = some (.lastRaw c) ∧
    Reg.atIndex (0x1A + BitVec.ofNat 8 c.val) = some (.lastConv c) ∧
    (Reg.resCode c).width = .bytes 1 ∧ (Reg.resVolts c).width = .volt ∧
    (Reg.lastRaw c).width = .bytes 1 ∧ (Reg.lastConv c).width = .volt ∧
    (Reg.resCode c).access = .readOnly ∧ (Reg.resVolts c).access = .readOnly ∧
    (Reg.lastRaw c).access = .readOnly ∧ (Reg.lastConv c).access = .readOnly) ∧
  (∀ index : Byte, 0x1E ≤ index → Reg.atIndex index = none) ∧
  (∀ s : State,
    Reg.vin.value s = s.vin.map .volt ∧ Reg.vrefIn.value s = s.vrefIn.map .volt ∧
    Reg.status.value s = s.status.map (fun st => .bytes 1 st.code.toNat) ∧
    Reg.resByte.value s = s.results.byte.map (fun b => .bytes 1 b.toNat) ∧
    Reg.resVolt.value s = s.results.volt.map .volt ∧
    Reg.resCh.value s = s.results.ch.map (fun c => .bytes 1 c.toNat) ∧
    Reg.resAi.value s = s.results.ai.map (fun b => .bytes 1 b.toNat) ∧
    Reg.resMode.value s = s.results.mode.map (fun m => .bytes 1 m.toNat) ∧
    Reg.resDac.value s = s.results.dac.map (fun b => .bytes 1 b.toNat) ∧
    Reg.session.value s = some (.bytes 1 (if s.session = .ready then 1 else 0)) ∧
    Reg.cb.value s = some (.bytes 1 s.cb.toNat) ∧ Reg.vref.value s = s.vref.map .volt ∧
    Reg.dacData.value s = s.dacData.map (fun b => .bytes 1 b.toNat) ∧
    (∀ c : Channel,
      (Reg.resCode c).value s = s.results.code[c].map (fun b => .bytes 1 b.toNat) ∧
      (Reg.resVolts c).value s = s.results.volts[c].map .volt ∧
      (Reg.lastRaw c).value s = some (.bytes 1 s.lastRaw[c].toNat) ∧
      (Reg.lastConv c).value s = some (.volt s.lastConv[c])) ∧
    ∀ w : Word, hostWrite s 0x00 (.bytes 2 w.toNat) = issue w s)

/-- The checks of a host access in the order of spec/20_memory.md section 1; otherwise a read returns the register's value, or
faults where it holds none, and changes no other state; a write of VIN or VREF_IN stores the value and
has no other effect; a write of CMD issues the command. That a read's value is appended to `replies`
is the model's choice (log 5). -/
def Obligations.HostAccessChecks : Prop :=
  (∀ (s : State) (index : Byte), Reg.atIndex index = none →
    (∀ w : Width, hostRead s index w = { s with refused := some .reservedIndex }) ∧
    (∀ v : HostValue,
      hostWrite s index v = .next { s with refused := some .reservedIndex })) ∧
  (∀ (s : State) (index : Byte) (r : Reg), Reg.atIndex index = some r →
    (∀ w : Width, w ≠ r.width →
      hostRead s index w = { s with refused := some .widthMismatch }) ∧
    (∀ v : HostValue, v.width ≠ r.width →
      hostWrite s index v = .next { s with refused := some .widthMismatch })) ∧
  (∀ s : State, hostRead s 0x00 (.bytes 2) = { s with refused := some .writeOnly }) ∧
  (∀ (s : State) (index : Byte) (r : Reg) (v : HostValue), Reg.atIndex index = some r →
    v.width = r.width → r.access = .readOnly →
    hostWrite s index v = .next { s with refused := some .readOnly }) ∧
  (∀ (s : State) (index : Byte) (r : Reg), Reg.atIndex index = some r → r ≠ .cmd →
    (∀ v : HostValue, r.value s = some v →
      hostRead s index r.width = { s with replies := s.replies ++ [v] }) ∧
    (r.value s = none →
      hostRead s index r.width = { s with fault := some .readUnwritten })) ∧
  (∀ (s : State) (q : Volt), hostWrite s 0x01 (.volt q) = .next { s with vin := some q } ∧
    hostWrite s 0x02 (.volt q) = .next { s with vrefIn := some q }) ∧
  (∀ (s : State) (w : Word), hostWrite s 0x00 (.bytes 2 w.toNat) = issue w s)

/-- VIN and VREF_IN accept any Volt value and keep it until the host writes them again: no command and
no host read changes them (spec/20_memory.md section 1). That no command changes `host`, `replies`,
`params` or `portId` speaks of the model's own fields and is the model's choice (logs 5, 7 and 18). -/
def Obligations.CommandsKeepHostOperands : Prop :=
  (∀ (s : State) (q : Volt), hostWrite s 0x01 (.volt q) = .next { s with vin := some q } ∧
    hostWrite s 0x02 (.volt q) = .next { s with vrefIn := some q }) ∧
  (∀ (s : State) (index : Byte) (w : Width),
    (hostRead s index w).vin = s.vin ∧ (hostRead s index w).vrefIn = s.vrefIn) ∧
  (∀ (i : Instr) (s t : State), exec i s = .next t →
    t.vin = s.vin ∧ t.vrefIn = s.vrefIn ∧ t.host = s.host ∧ t.replies = s.replies ∧
    t.params = s.params ∧ t.portId = s.portId)

/-- R92 for pure commands: no bus event, no session register read or written. The outcome is the
same from any two unmarked states that agree on VIN, VREF_IN and the parameters. -/
def Obligations.PureCommandsTouchNoSession : Prop :=
  ∀ (i : Instr) (s t : State), i.mnemonic.cls = .pure → exec i s = .next t →
    (t.session = s.session ∧ t.cb = s.cb ∧ t.vref = s.vref ∧ t.dacData = s.dacData ∧
      t.lastRaw = s.lastRaw ∧ t.lastConv = s.lastConv ∧ t.trace = s.trace ∧ t.port = s.port ∧
      t.draws = s.draws) ∧
    (∀ s' t' : State, s'.vin = s.vin → s'.vrefIn = s.vrefIn → s'.params = s.params →
      s.refused = none → s.fault = none → s'.refused = none → s'.fault = none →
      exec i s' = .next t' →
      t'.results = t.results ∧ t'.refused = t.refused ∧ t'.fault = t.fault ∧
      (t.refused = none → t.fault = none → t'.status = t.status ∧ t.status ≠ none))

/-- R39, R159: a cache entry changes only in a read command that ends OK, for the channel read, and
then LAST_CONV[c] is LAST_RAW[c] converted at the VREF of that step (R38). -/
def Obligations.CachesChangeOnlyOnGoodReads : Prop :=
  ∀ (i : Instr) (s t : State) (c : Channel), exec i s = .next t →
    (t.lastRaw[c] = s.lastRaw[c] ∧ t.lastConv[c] = s.lastConv[c]) ∨
    (t.status = some .ok ∧ t.seq = .idle ∧ s.session = .ready ∧
      (i = .readAllRaw ∨ i = .readAllVoltage ∨ i = .readChannelRaw (BitVec.ofNat 4 c.val) ∨
        i = .readChannelVoltage (BitVec.ofNat 4 c.val)) ∧
      ∃ r, t.vref = some r ∧ s.vref = some r ∧ t.lastConv[c] = codeToVoltage t.lastRaw[c] r)

/-- R25: SESSION becomes Ready only in an INIT that ends OK, and never leaves Ready. -/
def Obligations.SessionTransitions : Prop :=
  ∀ (i : Instr) (s t : State), exec i s = .next t →
    (s.session = .ready → t.session = .ready) ∧
    (s.session = .uninitialized → t.session = .ready →
      i.mnemonic = .init ∧ t.status = some .ok)

/-- What each command may do to the fields of CB: input_mode changes only in INIT, channel only in
INIT and READ_CHANNEL_*, dac_enable is cleared only in INIT, auto_increment is set only in INIT and
only where CB holds it set already (the spec's own inference, R160, R33, R34). -/
def Obligations.ControlBytePersists : Prop :=
  ∀ (i : Instr) (s t : State), exec i s = .next t →
    (i.mnemonic ≠ .init → (fnDecode t.cb).inputMode = (fnDecode s.cb).inputMode) ∧
    (i.mnemonic ≠ .init → i.mnemonic ≠ .readChannelRaw → i.mnemonic ≠ .readChannelVoltage →
      (fnDecode t.cb).channel = (fnDecode s.cb).channel) ∧
    (i.mnemonic ≠ .init → (fnDecode s.cb).dacEnable = true → (fnDecode t.cb).dacEnable = true) ∧
    ((fnDecode t.cb).autoIncrement = true → (fnDecode s.cb).autoIncrement = true)

/-- The bus events of one command: a pure command issues none, INIT a probe and then at most one
command-only write, WRITE_* at most one command+data write, READ_* at most one command-only write and
then one receive. Every transmit carries the whole CB the command leaves (the table of R141, with the
paths of a port that never answers, log 4). -/
def Obligations.CommandBusEvents : Prop :=
  ∀ (i : Instr) (s t : State), exec i s = .next t →
    ∃ evs, t.trace = s.trace ++ evs ∧
      match i with
      | .init _ _ =>
        evs = [] ∨ (∃ ready, evs = [.probe 0x48 ready]) ∨
          ∃ ok, evs = [.probe 0x48 true, .tx 0x48 [t.cb] ok]
      | .writeRaw _ | .writeVoltage =>
        evs = [] ∨ ∃ d ok, t.dacData = some d ∧ evs = [.tx 0x48 [t.cb, d] ok]
      | .readChannelRaw _ | .readChannelVoltage _ =>
        evs = [] ∨ (∃ ok, evs = [.tx 0x48 [t.cb] ok]) ∨
          ∃ ans, evs = [.tx 0x48 [t.cb] true, .rx 0x48 2 ans]
      | .readAllRaw | .readAllVoltage =>
        evs = [] ∨ (∃ ok, evs = [.tx 0x48 [t.cb] ok]) ∨
          ∃ ans, evs = [.tx 0x48 [t.cb] true, .rx 0x48 5 ans]
      | _ => evs = []

/-- Where a command writes STATUS, the value is one its row of the table of R171 allows (the spec's
own inference). -/
def Obligations.StatusPerCommand : Prop :=
  ∀ (i : Instr) (s t : State), exec i s = .next t →
    t.status = s.status ∨ t.status = some .ok ∨
      (t.status = some .deviceNotReady ∧ i.mnemonic = .init) ∨
      (t.status = some .busTransferFailed ∧ i.mnemonic.cls = .session) ∨
      (t.status = some .invalidChannel ∧
        (i.mnemonic = .crSetChannel ∨ i.mnemonic = .readChannelRaw ∨
          i.mnemonic = .readChannelVoltage))

/-- R42: at reset the result registers hold none, and after an admitted command a result register
holds a value only if the command is one that produces it and it ended OK. -/
def Obligations.ResultsOnlyFromTheirCommand : Prop :=
  State.reset.results = Results.cleared ∧ ∀ (i : Instr) (s t : State), exec i s = .next t →
    (s.session = .ready ∨ i.mnemonic.cls = .pure ∨ i.mnemonic = .init) →
    (t.results ≠ Results.cleared → t.status = some .ok) ∧
    (t.results.byte ≠ none → i.mnemonic ∈ [.crSetChannel, .crSetInputMode, .crEnableDac, .crSetAi,
      .crClearAi, .convV2c, .readChannelRaw]) ∧
    (t.results.volt ≠ none → i.mnemonic ∈ [.convC2v, .readChannelVoltage]) ∧
    (t.results.ch ≠ none ∨ t.results.ai ≠ none ∨ t.results.mode ≠ none ∨ t.results.dac ≠ none →
      i.mnemonic = .crDecode) ∧
    (∀ c : Channel, t.results.code[c] ≠ none → i.mnemonic = .readAllRaw) ∧
    (∀ c : Channel, t.results.volts[c] ≠ none → i.mnemonic = .readAllVoltage)

/-- The stale leading byte reaches nothing but TRACE: two machines that differ only in stale leading
bytes, still to come or already in TRACE, take the same step, to states that again differ only so. -/
def Obligations.StaleByteNeverMatters : Prop :=
  ∀ s t : State, StaleTwins s t →
    match step s, step t with
    | .next s', .next t' => StaleTwins s' t'
    | .fault f, .fault g => f = g
    | .refused q, .refused r => q = r
    | _, _ => False

/-- Every step keeps the invariant, from every state that meets it. -/
def Obligations.StepKeepsInvariant : Prop :=
  ∀ s t : State, BlockInv s → step s = .next t → BlockInv t

/-- The invariant holds at reset, whatever parameters, port, port answers and program are loaded. -/
def Obligations.ResetMeetsInvariant : Prop :=
  ∀ (p : Params) (portId : Nat) (port : List (Option PortAnswer)) (program : List HostAccess),
    BlockInv (State.reset.load p portId port program)

/-- In every reachable state whose marks are clear: CB[7] = CB[3] = CB[2] = 0; before the first good
INIT, TRACE holds only PROBE events and one-byte TX events, the caches are 0 and DAC_DATA is none; and
every cached voltage is its code's conversion at some reference above 0 (the spec's own inference, R52
items 1 to 3; item 3's reference is that of CachesChangeOnlyOnGoodReads). -/
def Obligations.ReachableStates : Prop :=
  ∀ s : State, Reachable s → s.refused = none → s.fault = none →
    (s.cb.getLsbD 7 = false ∧ s.cb.getLsbD 3 = false ∧ s.cb.getLsbD 2 = false) ∧
    (s.session = .uninitialized →
      (∀ e ∈ s.trace, e.ofInit = true) ∧ s.dacData = none ∧
      ∀ c : Channel, s.lastRaw[c] = 0 ∧ s.lastConv[c] = 0) ∧
    (∀ c : Channel, ∃ r, 0 < r ∧ s.lastConv[c] = codeToVoltage s.lastRaw[c] r)

/-- A step of one block instance is a step of its own state, changes no other instance, and keeps
every instance on a Transport Port of its own; instances just created have one each (R22, R182). That
a port is a number in the state is the model's choice (log 18). -/
def Obligations.InstancesShareNothing : Prop :=
  (∀ n : Nat, ownPorts (newInstances n)) ∧
  ∀ (ss ts : List State) (k : Nat) (hk : k < ss.length), stepInstance ss k hk = .next ts →
    ts.length = ss.length ∧ (ownPorts ss → ownPorts ts) ∧
    (∃ t, step ss[k] = .next t ∧ ts[k]? = some t) ∧
    ∀ j, j ≠ k → ts[j]? = ss[j]?
end

