-- ==== Sys2Proof/Laws/ControlByte.lean ====
section
/-! SUPPORT. The control-byte functions bit by bit (spec/40_control_register.md R96 to R102). -/

namespace Sys2Proof.Machine

theorem fnSetChannel_valid {c : Nibble} (hc : ¬ 3 < c) (b : Byte) :
    fnSetChannel b c = .ok ((b &&& 0xFC) ||| c.setWidth 8) := by
  simp only [fnSetChannel, if_neg hc]

theorem fnSetChannel_invalid {c : Nibble} (hc : 3 < c) (b : Byte) :
    fnSetChannel b c = .error .invalidChannel := by
  simp only [fnSetChannel, if_pos hc]

/-- Setting the channel leaves bits 7, 6, 5, 4, 3 and 2 (R96). -/
theorem setChannel_keeps (b : Byte) {c : Nibble} (hc : ¬ 3 < c) :
    ((b &&& 0xFC) ||| c.setWidth 8) &&& 0xFC = b &&& 0xFC := by
  revert b c; decide +kernel

/-- Enabling the DAC leaves every bit but bit 6 (R99). -/
theorem fnEnableDac_keeps (b : Byte) (e : Bool) : fnEnableDac b e &&& 0xBF = b &&& 0xBF := by
  revert b e; decide +kernel

/-- Clearing auto-increment leaves every bit but bit 2, and bit 2 is 0 (R101). -/
theorem fnClearAi_keeps (b : Byte) : fnClearAi b &&& 0xFB = b &&& 0xFB ∧ fnClearAi b &&& 4 = 0 := by
  revert b; decide +kernel

/-- What INIT composes has only its own fields where the byte it starts from has only its own
(R145). -/
theorem initCompose_low (policy : ReinitPolicy) (cb : Byte) (en : Bool) (mode : BitVec 2) :
    (cb &&& 0x0F = 0 → initCompose policy cb en mode &&& 0x0F = 0) ∧
      (cb &&& 0x8C = 0 → initCompose policy cb en mode &&& 0x8C = 0) := by
  cases policy <;> cases en <;> (revert cb mode; decide +kernel)

end Sys2Proof.Machine
end

