-- ==== Sys2Proof/Laws/State.lean ====
section
/-! SUPPORT. One lemma per field per update of State, so that no proof unfolds a record update. -/

namespace Sys2Proof.Machine

variable (s : State)


/-! `State.setSeq`. -/

@[simp] theorem State.setSeq_session (p : Phase) : (s.setSeq p).session = s.session := rfl
@[simp] theorem State.setSeq_cb (p : Phase) : (s.setSeq p).cb = s.cb := rfl
@[simp] theorem State.setSeq_vref (p : Phase) : (s.setSeq p).vref = s.vref := rfl
@[simp] theorem State.setSeq_dacData (p : Phase) : (s.setSeq p).dacData = s.dacData := rfl
@[simp] theorem State.setSeq_lastRaw (p : Phase) : (s.setSeq p).lastRaw = s.lastRaw := rfl
@[simp] theorem State.setSeq_lastConv (p : Phase) : (s.setSeq p).lastConv = s.lastConv := rfl
@[simp] theorem State.setSeq_vin (p : Phase) : (s.setSeq p).vin = s.vin := rfl
@[simp] theorem State.setSeq_vrefIn (p : Phase) : (s.setSeq p).vrefIn = s.vrefIn := rfl
@[simp] theorem State.setSeq_status (p : Phase) : (s.setSeq p).status = s.status := rfl
@[simp] theorem State.setSeq_results (p : Phase) : (s.setSeq p).results = s.results := rfl
@[simp] theorem State.setSeq_seq (p : Phase) : (s.setSeq p).seq = p := rfl
@[simp] theorem State.setSeq_trace (p : Phase) : (s.setSeq p).trace = s.trace := rfl
@[simp] theorem State.setSeq_refused (p : Phase) : (s.setSeq p).refused = s.refused := rfl
@[simp] theorem State.setSeq_fault (p : Phase) : (s.setSeq p).fault = s.fault := rfl
@[simp] theorem State.setSeq_params (p : Phase) : (s.setSeq p).params = s.params := rfl
@[simp] theorem State.setSeq_portId (p : Phase) : (s.setSeq p).portId = s.portId := rfl
@[simp] theorem State.setSeq_port (p : Phase) : (s.setSeq p).port = s.port := rfl
@[simp] theorem State.setSeq_draws (p : Phase) : (s.setSeq p).draws = s.draws := rfl
@[simp] theorem State.setSeq_phases (p : Phase) : (s.setSeq p).phases = s.phases ++ [p] := rfl
@[simp] theorem State.setSeq_host (p : Phase) : (s.setSeq p).host = s.host := rfl
@[simp] theorem State.setSeq_replies (p : Phase) : (s.setSeq p).replies = s.replies := rfl
@[simp] theorem State.setSeq_answerAt (p : Phase) (k : Nat) :
    (s.setSeq p).answerAt k = s.answerAt k := rfl

/-! `State.setStatus`. -/

@[simp] theorem State.setStatus_session (st : Status) : (s.setStatus st).session = s.session := rfl
@[simp] theorem State.setStatus_cb (st : Status) : (s.setStatus st).cb = s.cb := rfl
@[simp] theorem State.setStatus_vref (st : Status) : (s.setStatus st).vref = s.vref := rfl
@[simp] theorem State.setStatus_dacData (st : Status) : (s.setStatus st).dacData = s.dacData := rfl
@[simp] theorem State.setStatus_lastRaw (st : Status) : (s.setStatus st).lastRaw = s.lastRaw := rfl
@[simp] theorem State.setStatus_lastConv (st : Status) :
    (s.setStatus st).lastConv = s.lastConv := rfl
@[simp] theorem State.setStatus_vin (st : Status) : (s.setStatus st).vin = s.vin := rfl
@[simp] theorem State.setStatus_vrefIn (st : Status) : (s.setStatus st).vrefIn = s.vrefIn := rfl
@[simp] theorem State.setStatus_status (st : Status) : (s.setStatus st).status = some st := rfl
@[simp] theorem State.setStatus_results (st : Status) : (s.setStatus st).results = s.results := rfl
@[simp] theorem State.setStatus_seq (st : Status) : (s.setStatus st).seq = s.seq := rfl
@[simp] theorem State.setStatus_trace (st : Status) : (s.setStatus st).trace = s.trace := rfl
@[simp] theorem State.setStatus_refused (st : Status) : (s.setStatus st).refused = s.refused := rfl
@[simp] theorem State.setStatus_fault (st : Status) : (s.setStatus st).fault = s.fault := rfl
@[simp] theorem State.setStatus_params (st : Status) : (s.setStatus st).params = s.params := rfl
@[simp] theorem State.setStatus_portId (st : Status) : (s.setStatus st).portId = s.portId := rfl
@[simp] theorem State.setStatus_port (st : Status) : (s.setStatus st).port = s.port := rfl
@[simp] theorem State.setStatus_draws (st : Status) : (s.setStatus st).draws = s.draws := rfl
@[simp] theorem State.setStatus_phases (st : Status) : (s.setStatus st).phases = s.phases := rfl
@[simp] theorem State.setStatus_host (st : Status) : (s.setStatus st).host = s.host := rfl
@[simp] theorem State.setStatus_replies (st : Status) : (s.setStatus st).replies = s.replies := rfl
@[simp] theorem State.setStatus_answerAt (st : Status) (k : Nat) :
    (s.setStatus st).answerAt k = s.answerAt k := rfl

/-! `State.finish`. -/

@[simp] theorem State.finish_session (st : Status) : (s.finish st).session = s.session := rfl
@[simp] theorem State.finish_cb (st : Status) : (s.finish st).cb = s.cb := rfl
@[simp] theorem State.finish_vref (st : Status) : (s.finish st).vref = s.vref := rfl
@[simp] theorem State.finish_dacData (st : Status) : (s.finish st).dacData = s.dacData := rfl
@[simp] theorem State.finish_lastRaw (st : Status) : (s.finish st).lastRaw = s.lastRaw := rfl
@[simp] theorem State.finish_lastConv (st : Status) : (s.finish st).lastConv = s.lastConv := rfl
@[simp] theorem State.finish_vin (st : Status) : (s.finish st).vin = s.vin := rfl
@[simp] theorem State.finish_vrefIn (st : Status) : (s.finish st).vrefIn = s.vrefIn := rfl
@[simp] theorem State.finish_status (st : Status) : (s.finish st).status = some st := rfl
@[simp] theorem State.finish_results (st : Status) : (s.finish st).results = s.results := rfl
@[simp] theorem State.finish_seq (st : Status) : (s.finish st).seq = .idle := rfl
@[simp] theorem State.finish_trace (st : Status) : (s.finish st).trace = s.trace := rfl
@[simp] theorem State.finish_refused (st : Status) : (s.finish st).refused = s.refused := rfl
@[simp] theorem State.finish_fault (st : Status) : (s.finish st).fault = s.fault := rfl
@[simp] theorem State.finish_params (st : Status) : (s.finish st).params = s.params := rfl
@[simp] theorem State.finish_portId (st : Status) : (s.finish st).portId = s.portId := rfl
@[simp] theorem State.finish_port (st : Status) : (s.finish st).port = s.port := rfl
@[simp] theorem State.finish_draws (st : Status) : (s.finish st).draws = s.draws := rfl
@[simp] theorem State.finish_phases (st : Status) :
    (s.finish st).phases = s.phases ++ [.idle] := rfl
@[simp] theorem State.finish_host (st : Status) : (s.finish st).host = s.host := rfl
@[simp] theorem State.finish_replies (st : Status) : (s.finish st).replies = s.replies := rfl
@[simp] theorem State.finish_answerAt (st : Status) (k : Nat) :
    (s.finish st).answerAt k = s.answerAt k := rfl

/-! `State.refuse`. -/

@[simp] theorem State.refuse_session (r : Refusal) : (s.refuse r).session = s.session := rfl
@[simp] theorem State.refuse_cb (r : Refusal) : (s.refuse r).cb = s.cb := rfl
@[simp] theorem State.refuse_vref (r : Refusal) : (s.refuse r).vref = s.vref := rfl
@[simp] theorem State.refuse_dacData (r : Refusal) : (s.refuse r).dacData = s.dacData := rfl
@[simp] theorem State.refuse_lastRaw (r : Refusal) : (s.refuse r).lastRaw = s.lastRaw := rfl
@[simp] theorem State.refuse_lastConv (r : Refusal) : (s.refuse r).lastConv = s.lastConv := rfl
@[simp] theorem State.refuse_vin (r : Refusal) : (s.refuse r).vin = s.vin := rfl
@[simp] theorem State.refuse_vrefIn (r : Refusal) : (s.refuse r).vrefIn = s.vrefIn := rfl
@[simp] theorem State.refuse_status (r : Refusal) : (s.refuse r).status = s.status := rfl
@[simp] theorem State.refuse_results (r : Refusal) : (s.refuse r).results = s.results := rfl
@[simp] theorem State.refuse_seq (r : Refusal) : (s.refuse r).seq = s.seq := rfl
@[simp] theorem State.refuse_trace (r : Refusal) : (s.refuse r).trace = s.trace := rfl
@[simp] theorem State.refuse_refused (r : Refusal) : (s.refuse r).refused = some r := rfl
@[simp] theorem State.refuse_fault (r : Refusal) : (s.refuse r).fault = s.fault := rfl
@[simp] theorem State.refuse_params (r : Refusal) : (s.refuse r).params = s.params := rfl
@[simp] theorem State.refuse_portId (r : Refusal) : (s.refuse r).portId = s.portId := rfl
@[simp] theorem State.refuse_port (r : Refusal) : (s.refuse r).port = s.port := rfl
@[simp] theorem State.refuse_draws (r : Refusal) : (s.refuse r).draws = s.draws := rfl
@[simp] theorem State.refuse_phases (r : Refusal) : (s.refuse r).phases = s.phases := rfl
@[simp] theorem State.refuse_host (r : Refusal) : (s.refuse r).host = s.host := rfl
@[simp] theorem State.refuse_replies (r : Refusal) : (s.refuse r).replies = s.replies := rfl
@[simp] theorem State.refuse_answerAt (r : Refusal) (k : Nat) :
    (s.refuse r).answerAt k = s.answerAt k := rfl

/-! `State.faultAt`. -/

@[simp] theorem State.faultAt_session (f : Fault) : (s.faultAt f).session = s.session := rfl
@[simp] theorem State.faultAt_cb (f : Fault) : (s.faultAt f).cb = s.cb := rfl
@[simp] theorem State.faultAt_vref (f : Fault) : (s.faultAt f).vref = s.vref := rfl
@[simp] theorem State.faultAt_dacData (f : Fault) : (s.faultAt f).dacData = s.dacData := rfl
@[simp] theorem State.faultAt_lastRaw (f : Fault) : (s.faultAt f).lastRaw = s.lastRaw := rfl
@[simp] theorem State.faultAt_lastConv (f : Fault) : (s.faultAt f).lastConv = s.lastConv := rfl
@[simp] theorem State.faultAt_vin (f : Fault) : (s.faultAt f).vin = s.vin := rfl
@[simp] theorem State.faultAt_vrefIn (f : Fault) : (s.faultAt f).vrefIn = s.vrefIn := rfl
@[simp] theorem State.faultAt_status (f : Fault) : (s.faultAt f).status = s.status := rfl
@[simp] theorem State.faultAt_results (f : Fault) : (s.faultAt f).results = s.results := rfl
@[simp] theorem State.faultAt_seq (f : Fault) : (s.faultAt f).seq = s.seq := rfl
@[simp] theorem State.faultAt_trace (f : Fault) : (s.faultAt f).trace = s.trace := rfl
@[simp] theorem State.faultAt_refused (f : Fault) : (s.faultAt f).refused = s.refused := rfl
@[simp] theorem State.faultAt_fault (f : Fault) : (s.faultAt f).fault = some f := rfl
@[simp] theorem State.faultAt_params (f : Fault) : (s.faultAt f).params = s.params := rfl
@[simp] theorem State.faultAt_portId (f : Fault) : (s.faultAt f).portId = s.portId := rfl
@[simp] theorem State.faultAt_port (f : Fault) : (s.faultAt f).port = s.port := rfl
@[simp] theorem State.faultAt_draws (f : Fault) : (s.faultAt f).draws = s.draws := rfl
@[simp] theorem State.faultAt_phases (f : Fault) : (s.faultAt f).phases = s.phases := rfl
@[simp] theorem State.faultAt_host (f : Fault) : (s.faultAt f).host = s.host := rfl
@[simp] theorem State.faultAt_replies (f : Fault) : (s.faultAt f).replies = s.replies := rfl
@[simp] theorem State.faultAt_answerAt (f : Fault) (k : Nat) :
    (s.faultAt f).answerAt k = s.answerAt k := rfl

/-! `State.idleSeq`. -/

@[simp] theorem State.idleSeq_session : s.idleSeq.session = s.session := rfl
@[simp] theorem State.idleSeq_cb : s.idleSeq.cb = s.cb := rfl
@[simp] theorem State.idleSeq_vref : s.idleSeq.vref = s.vref := rfl
@[simp] theorem State.idleSeq_dacData : s.idleSeq.dacData = s.dacData := rfl
@[simp] theorem State.idleSeq_lastRaw : s.idleSeq.lastRaw = s.lastRaw := rfl
@[simp] theorem State.idleSeq_lastConv : s.idleSeq.lastConv = s.lastConv := rfl
@[simp] theorem State.idleSeq_vin : s.idleSeq.vin = s.vin := rfl
@[simp] theorem State.idleSeq_vrefIn : s.idleSeq.vrefIn = s.vrefIn := rfl
@[simp] theorem State.idleSeq_status : s.idleSeq.status = s.status := rfl
@[simp] theorem State.idleSeq_results : s.idleSeq.results = s.results := rfl
@[simp] theorem State.idleSeq_seq : s.idleSeq.seq = .idle := rfl
@[simp] theorem State.idleSeq_trace : s.idleSeq.trace = s.trace := rfl
@[simp] theorem State.idleSeq_refused : s.idleSeq.refused = s.refused := rfl
@[simp] theorem State.idleSeq_fault : s.idleSeq.fault = s.fault := rfl
@[simp] theorem State.idleSeq_params : s.idleSeq.params = s.params := rfl
@[simp] theorem State.idleSeq_portId : s.idleSeq.portId = s.portId := rfl
@[simp] theorem State.idleSeq_port : s.idleSeq.port = s.port := rfl
@[simp] theorem State.idleSeq_draws : s.idleSeq.draws = s.draws := rfl
@[simp] theorem State.idleSeq_phases : s.idleSeq.phases = s.phases := rfl
@[simp] theorem State.idleSeq_host : s.idleSeq.host = s.host := rfl
@[simp] theorem State.idleSeq_replies : s.idleSeq.replies = s.replies := rfl
@[simp] theorem State.idleSeq_answerAt (k : Nat) :
    s.idleSeq.answerAt k = s.answerAt k := rfl

/-! `State.setSession`. -/

@[simp] theorem State.setSession_session (v : Session) : (s.setSession v).session = v := rfl
@[simp] theorem State.setSession_cb (v : Session) : (s.setSession v).cb = s.cb := rfl
@[simp] theorem State.setSession_vref (v : Session) : (s.setSession v).vref = s.vref := rfl
@[simp] theorem State.setSession_dacData (v : Session) : (s.setSession v).dacData = s.dacData := rfl
@[simp] theorem State.setSession_lastRaw (v : Session) : (s.setSession v).lastRaw = s.lastRaw := rfl
@[simp] theorem State.setSession_lastConv (v : Session) :
    (s.setSession v).lastConv = s.lastConv := rfl
@[simp] theorem State.setSession_vin (v : Session) : (s.setSession v).vin = s.vin := rfl
@[simp] theorem State.setSession_vrefIn (v : Session) : (s.setSession v).vrefIn = s.vrefIn := rfl
@[simp] theorem State.setSession_status (v : Session) : (s.setSession v).status = s.status := rfl
@[simp] theorem State.setSession_results (v : Session) : (s.setSession v).results = s.results := rfl
@[simp] theorem State.setSession_seq (v : Session) : (s.setSession v).seq = s.seq := rfl
@[simp] theorem State.setSession_trace (v : Session) : (s.setSession v).trace = s.trace := rfl
@[simp] theorem State.setSession_refused (v : Session) : (s.setSession v).refused = s.refused := rfl
@[simp] theorem State.setSession_fault (v : Session) : (s.setSession v).fault = s.fault := rfl
@[simp] theorem State.setSession_params (v : Session) : (s.setSession v).params = s.params := rfl
@[simp] theorem State.setSession_portId (v : Session) : (s.setSession v).portId = s.portId := rfl
@[simp] theorem State.setSession_port (v : Session) : (s.setSession v).port = s.port := rfl
@[simp] theorem State.setSession_draws (v : Session) : (s.setSession v).draws = s.draws := rfl
@[simp] theorem State.setSession_phases (v : Session) : (s.setSession v).phases = s.phases := rfl
@[simp] theorem State.setSession_host (v : Session) : (s.setSession v).host = s.host := rfl
@[simp] theorem State.setSession_replies (v : Session) : (s.setSession v).replies = s.replies := rfl
@[simp] theorem State.setSession_answerAt (v : Session) (k : Nat) :
    (s.setSession v).answerAt k = s.answerAt k := rfl

/-! `State.setCb`. -/

@[simp] theorem State.setCb_session (b : Byte) : (s.setCb b).session = s.session := rfl
@[simp] theorem State.setCb_cb (b : Byte) : (s.setCb b).cb = b := rfl
@[simp] theorem State.setCb_vref (b : Byte) : (s.setCb b).vref = s.vref := rfl
@[simp] theorem State.setCb_dacData (b : Byte) : (s.setCb b).dacData = s.dacData := rfl
@[simp] theorem State.setCb_lastRaw (b : Byte) : (s.setCb b).lastRaw = s.lastRaw := rfl
@[simp] theorem State.setCb_lastConv (b : Byte) : (s.setCb b).lastConv = s.lastConv := rfl
@[simp] theorem State.setCb_vin (b : Byte) : (s.setCb b).vin = s.vin := rfl
@[simp] theorem State.setCb_vrefIn (b : Byte) : (s.setCb b).vrefIn = s.vrefIn := rfl
@[simp] theorem State.setCb_status (b : Byte) : (s.setCb b).status = s.status := rfl
@[simp] theorem State.setCb_results (b : Byte) : (s.setCb b).results = s.results := rfl
@[simp] theorem State.setCb_seq (b : Byte) : (s.setCb b).seq = s.seq := rfl
@[simp] theorem State.setCb_trace (b : Byte) : (s.setCb b).trace = s.trace := rfl
@[simp] theorem State.setCb_refused (b : Byte) : (s.setCb b).refused = s.refused := rfl
@[simp] theorem State.setCb_fault (b : Byte) : (s.setCb b).fault = s.fault := rfl
@[simp] theorem State.setCb_params (b : Byte) : (s.setCb b).params = s.params := rfl
@[simp] theorem State.setCb_portId (b : Byte) : (s.setCb b).portId = s.portId := rfl
@[simp] theorem State.setCb_port (b : Byte) : (s.setCb b).port = s.port := rfl
@[simp] theorem State.setCb_draws (b : Byte) : (s.setCb b).draws = s.draws := rfl
@[simp] theorem State.setCb_phases (b : Byte) : (s.setCb b).phases = s.phases := rfl
@[simp] theorem State.setCb_host (b : Byte) : (s.setCb b).host = s.host := rfl
@[simp] theorem State.setCb_replies (b : Byte) : (s.setCb b).replies = s.replies := rfl
@[simp] theorem State.setCb_answerAt (b : Byte) (k : Nat) :
    (s.setCb b).answerAt k = s.answerAt k := rfl

/-! `State.setVref`. -/

@[simp] theorem State.setVref_session (r : Volt) : (s.setVref r).session = s.session := rfl
@[simp] theorem State.setVref_cb (r : Volt) : (s.setVref r).cb = s.cb := rfl
@[simp] theorem State.setVref_vref (r : Volt) : (s.setVref r).vref = some r := rfl
@[simp] theorem State.setVref_dacData (r : Volt) : (s.setVref r).dacData = s.dacData := rfl
@[simp] theorem State.setVref_lastRaw (r : Volt) : (s.setVref r).lastRaw = s.lastRaw := rfl
@[simp] theorem State.setVref_lastConv (r : Volt) : (s.setVref r).lastConv = s.lastConv := rfl
@[simp] theorem State.setVref_vin (r : Volt) : (s.setVref r).vin = s.vin := rfl
@[simp] theorem State.setVref_vrefIn (r : Volt) : (s.setVref r).vrefIn = s.vrefIn := rfl
@[simp] theorem State.setVref_status (r : Volt) : (s.setVref r).status = s.status := rfl
@[simp] theorem State.setVref_results (r : Volt) : (s.setVref r).results = s.results := rfl
@[simp] theorem State.setVref_seq (r : Volt) : (s.setVref r).seq = s.seq := rfl
@[simp] theorem State.setVref_trace (r : Volt) : (s.setVref r).trace = s.trace := rfl
@[simp] theorem State.setVref_refused (r : Volt) : (s.setVref r).refused = s.refused := rfl
@[simp] theorem State.setVref_fault (r : Volt) : (s.setVref r).fault = s.fault := rfl
@[simp] theorem State.setVref_params (r : Volt) : (s.setVref r).params = s.params := rfl
@[simp] theorem State.setVref_portId (r : Volt) : (s.setVref r).portId = s.portId := rfl
@[simp] theorem State.setVref_port (r : Volt) : (s.setVref r).port = s.port := rfl
@[simp] theorem State.setVref_draws (r : Volt) : (s.setVref r).draws = s.draws := rfl
@[simp] theorem State.setVref_phases (r : Volt) : (s.setVref r).phases = s.phases := rfl
@[simp] theorem State.setVref_host (r : Volt) : (s.setVref r).host = s.host := rfl
@[simp] theorem State.setVref_replies (r : Volt) : (s.setVref r).replies = s.replies := rfl
@[simp] theorem State.setVref_answerAt (r : Volt) (k : Nat) :
    (s.setVref r).answerAt k = s.answerAt k := rfl

/-! `State.setDacData`. -/

@[simp] theorem State.setDacData_session (b : Byte) : (s.setDacData b).session = s.session := rfl
@[simp] theorem State.setDacData_cb (b : Byte) : (s.setDacData b).cb = s.cb := rfl
@[simp] theorem State.setDacData_vref (b : Byte) : (s.setDacData b).vref = s.vref := rfl
@[simp] theorem State.setDacData_dacData (b : Byte) : (s.setDacData b).dacData = some b := rfl
@[simp] theorem State.setDacData_lastRaw (b : Byte) : (s.setDacData b).lastRaw = s.lastRaw := rfl
@[simp] theorem State.setDacData_lastConv (b : Byte) : (s.setDacData b).lastConv = s.lastConv := rfl
@[simp] theorem State.setDacData_vin (b : Byte) : (s.setDacData b).vin = s.vin := rfl
@[simp] theorem State.setDacData_vrefIn (b : Byte) : (s.setDacData b).vrefIn = s.vrefIn := rfl
@[simp] theorem State.setDacData_status (b : Byte) : (s.setDacData b).status = s.status := rfl
@[simp] theorem State.setDacData_results (b : Byte) : (s.setDacData b).results = s.results := rfl
@[simp] theorem State.setDacData_seq (b : Byte) : (s.setDacData b).seq = s.seq := rfl
@[simp] theorem State.setDacData_trace (b : Byte) : (s.setDacData b).trace = s.trace := rfl
@[simp] theorem State.setDacData_refused (b : Byte) : (s.setDacData b).refused = s.refused := rfl
@[simp] theorem State.setDacData_fault (b : Byte) : (s.setDacData b).fault = s.fault := rfl
@[simp] theorem State.setDacData_params (b : Byte) : (s.setDacData b).params = s.params := rfl
@[simp] theorem State.setDacData_portId (b : Byte) : (s.setDacData b).portId = s.portId := rfl
@[simp] theorem State.setDacData_port (b : Byte) : (s.setDacData b).port = s.port := rfl
@[simp] theorem State.setDacData_draws (b : Byte) : (s.setDacData b).draws = s.draws := rfl
@[simp] theorem State.setDacData_phases (b : Byte) : (s.setDacData b).phases = s.phases := rfl
@[simp] theorem State.setDacData_host (b : Byte) : (s.setDacData b).host = s.host := rfl
@[simp] theorem State.setDacData_replies (b : Byte) : (s.setDacData b).replies = s.replies := rfl
@[simp] theorem State.setDacData_answerAt (b : Byte) (k : Nat) :
    (s.setDacData b).answerAt k = s.answerAt k := rfl

/-! `State.setVin`. -/

@[simp] theorem State.setVin_session (v : Volt) : (s.setVin v).session = s.session := rfl
@[simp] theorem State.setVin_cb (v : Volt) : (s.setVin v).cb = s.cb := rfl
@[simp] theorem State.setVin_vref (v : Volt) : (s.setVin v).vref = s.vref := rfl
@[simp] theorem State.setVin_dacData (v : Volt) : (s.setVin v).dacData = s.dacData := rfl
@[simp] theorem State.setVin_lastRaw (v : Volt) : (s.setVin v).lastRaw = s.lastRaw := rfl
@[simp] theorem State.setVin_lastConv (v : Volt) : (s.setVin v).lastConv = s.lastConv := rfl
@[simp] theorem State.setVin_vin (v : Volt) : (s.setVin v).vin = some v := rfl
@[simp] theorem State.setVin_vrefIn (v : Volt) : (s.setVin v).vrefIn = s.vrefIn := rfl
@[simp] theorem State.setVin_status (v : Volt) : (s.setVin v).status = s.status := rfl
@[simp] theorem State.setVin_results (v : Volt) : (s.setVin v).results = s.results := rfl
@[simp] theorem State.setVin_seq (v : Volt) : (s.setVin v).seq = s.seq := rfl
@[simp] theorem State.setVin_trace (v : Volt) : (s.setVin v).trace = s.trace := rfl
@[simp] theorem State.setVin_refused (v : Volt) : (s.setVin v).refused = s.refused := rfl
@[simp] theorem State.setVin_fault (v : Volt) : (s.setVin v).fault = s.fault := rfl
@[simp] theorem State.setVin_params (v : Volt) : (s.setVin v).params = s.params := rfl
@[simp] theorem State.setVin_portId (v : Volt) : (s.setVin v).portId = s.portId := rfl
@[simp] theorem State.setVin_port (v : Volt) : (s.setVin v).port = s.port := rfl
@[simp] theorem State.setVin_draws (v : Volt) : (s.setVin v).draws = s.draws := rfl
@[simp] theorem State.setVin_phases (v : Volt) : (s.setVin v).phases = s.phases := rfl
@[simp] theorem State.setVin_host (v : Volt) : (s.setVin v).host = s.host := rfl
@[simp] theorem State.setVin_replies (v : Volt) : (s.setVin v).replies = s.replies := rfl
@[simp] theorem State.setVin_answerAt (v : Volt) (k : Nat) :
    (s.setVin v).answerAt k = s.answerAt k := rfl

/-! `State.setVrefIn`. -/

@[simp] theorem State.setVrefIn_session (v : Volt) : (s.setVrefIn v).session = s.session := rfl
@[simp] theorem State.setVrefIn_cb (v : Volt) : (s.setVrefIn v).cb = s.cb := rfl
@[simp] theorem State.setVrefIn_vref (v : Volt) : (s.setVrefIn v).vref = s.vref := rfl
@[simp] theorem State.setVrefIn_dacData (v : Volt) : (s.setVrefIn v).dacData = s.dacData := rfl
@[simp] theorem State.setVrefIn_lastRaw (v : Volt) : (s.setVrefIn v).lastRaw = s.lastRaw := rfl
@[simp] theorem State.setVrefIn_lastConv (v : Volt) : (s.setVrefIn v).lastConv = s.lastConv := rfl
@[simp] theorem State.setVrefIn_vin (v : Volt) : (s.setVrefIn v).vin = s.vin := rfl
@[simp] theorem State.setVrefIn_vrefIn (v : Volt) : (s.setVrefIn v).vrefIn = some v := rfl
@[simp] theorem State.setVrefIn_status (v : Volt) : (s.setVrefIn v).status = s.status := rfl
@[simp] theorem State.setVrefIn_results (v : Volt) : (s.setVrefIn v).results = s.results := rfl
@[simp] theorem State.setVrefIn_seq (v : Volt) : (s.setVrefIn v).seq = s.seq := rfl
@[simp] theorem State.setVrefIn_trace (v : Volt) : (s.setVrefIn v).trace = s.trace := rfl
@[simp] theorem State.setVrefIn_refused (v : Volt) : (s.setVrefIn v).refused = s.refused := rfl
@[simp] theorem State.setVrefIn_fault (v : Volt) : (s.setVrefIn v).fault = s.fault := rfl
@[simp] theorem State.setVrefIn_params (v : Volt) : (s.setVrefIn v).params = s.params := rfl
@[simp] theorem State.setVrefIn_portId (v : Volt) : (s.setVrefIn v).portId = s.portId := rfl
@[simp] theorem State.setVrefIn_port (v : Volt) : (s.setVrefIn v).port = s.port := rfl
@[simp] theorem State.setVrefIn_draws (v : Volt) : (s.setVrefIn v).draws = s.draws := rfl
@[simp] theorem State.setVrefIn_phases (v : Volt) : (s.setVrefIn v).phases = s.phases := rfl
@[simp] theorem State.setVrefIn_host (v : Volt) : (s.setVrefIn v).host = s.host := rfl
@[simp] theorem State.setVrefIn_replies (v : Volt) : (s.setVrefIn v).replies = s.replies := rfl
@[simp] theorem State.setVrefIn_answerAt (v : Volt) (k : Nat) :
    (s.setVrefIn v).answerAt k = s.answerAt k := rfl

/-! `State.setResults`. -/

@[simp] theorem State.setResults_session (r : Results) : (s.setResults r).session = s.session := rfl
@[simp] theorem State.setResults_cb (r : Results) : (s.setResults r).cb = s.cb := rfl
@[simp] theorem State.setResults_vref (r : Results) : (s.setResults r).vref = s.vref := rfl
@[simp] theorem State.setResults_dacData (r : Results) : (s.setResults r).dacData = s.dacData := rfl
@[simp] theorem State.setResults_lastRaw (r : Results) : (s.setResults r).lastRaw = s.lastRaw := rfl
@[simp] theorem State.setResults_lastConv (r : Results) :
    (s.setResults r).lastConv = s.lastConv := rfl
@[simp] theorem State.setResults_vin (r : Results) : (s.setResults r).vin = s.vin := rfl
@[simp] theorem State.setResults_vrefIn (r : Results) : (s.setResults r).vrefIn = s.vrefIn := rfl
@[simp] theorem State.setResults_status (r : Results) : (s.setResults r).status = s.status := rfl
@[simp] theorem State.setResults_results (r : Results) : (s.setResults r).results = r := rfl
@[simp] theorem State.setResults_seq (r : Results) : (s.setResults r).seq = s.seq := rfl
@[simp] theorem State.setResults_trace (r : Results) : (s.setResults r).trace = s.trace := rfl
@[simp] theorem State.setResults_refused (r : Results) : (s.setResults r).refused = s.refused := rfl
@[simp] theorem State.setResults_fault (r : Results) : (s.setResults r).fault = s.fault := rfl
@[simp] theorem State.setResults_params (r : Results) : (s.setResults r).params = s.params := rfl
@[simp] theorem State.setResults_portId (r : Results) : (s.setResults r).portId = s.portId := rfl
@[simp] theorem State.setResults_port (r : Results) : (s.setResults r).port = s.port := rfl
@[simp] theorem State.setResults_draws (r : Results) : (s.setResults r).draws = s.draws := rfl
@[simp] theorem State.setResults_phases (r : Results) : (s.setResults r).phases = s.phases := rfl
@[simp] theorem State.setResults_host (r : Results) : (s.setResults r).host = s.host := rfl
@[simp] theorem State.setResults_replies (r : Results) : (s.setResults r).replies = s.replies := rfl
@[simp] theorem State.setResults_answerAt (r : Results) (k : Nat) :
    (s.setResults r).answerAt k = s.answerAt k := rfl

/-! `State.clearResults`. -/

@[simp] theorem State.clearResults_session : s.clearResults.session = s.session := rfl
@[simp] theorem State.clearResults_cb : s.clearResults.cb = s.cb := rfl
@[simp] theorem State.clearResults_vref : s.clearResults.vref = s.vref := rfl
@[simp] theorem State.clearResults_dacData : s.clearResults.dacData = s.dacData := rfl
@[simp] theorem State.clearResults_lastRaw : s.clearResults.lastRaw = s.lastRaw := rfl
@[simp] theorem State.clearResults_lastConv : s.clearResults.lastConv = s.lastConv := rfl
@[simp] theorem State.clearResults_vin : s.clearResults.vin = s.vin := rfl
@[simp] theorem State.clearResults_vrefIn : s.clearResults.vrefIn = s.vrefIn := rfl
@[simp] theorem State.clearResults_status : s.clearResults.status = s.status := rfl
@[simp] theorem State.clearResults_results : s.clearResults.results = Results.cleared := rfl
@[simp] theorem State.clearResults_seq : s.clearResults.seq = s.seq := rfl
@[simp] theorem State.clearResults_trace : s.clearResults.trace = s.trace := rfl
@[simp] theorem State.clearResults_refused : s.clearResults.refused = s.refused := rfl
@[simp] theorem State.clearResults_fault : s.clearResults.fault = s.fault := rfl
@[simp] theorem State.clearResults_params : s.clearResults.params = s.params := rfl
@[simp] theorem State.clearResults_portId : s.clearResults.portId = s.portId := rfl
@[simp] theorem State.clearResults_port : s.clearResults.port = s.port := rfl
@[simp] theorem State.clearResults_draws : s.clearResults.draws = s.draws := rfl
@[simp] theorem State.clearResults_phases : s.clearResults.phases = s.phases := rfl
@[simp] theorem State.clearResults_host : s.clearResults.host = s.host := rfl
@[simp] theorem State.clearResults_replies : s.clearResults.replies = s.replies := rfl
@[simp] theorem State.clearResults_answerAt (k : Nat) :
    s.clearResults.answerAt k = s.answerAt k := rfl

/-! `State.setCache`. -/

@[simp] theorem State.setCache_session (c : Channel) (code : Byte) (volt : Volt) :
    (s.setCache c code volt).session = s.session := rfl
@[simp] theorem State.setCache_cb (c : Channel) (code : Byte) (volt : Volt) :
    (s.setCache c code volt).cb = s.cb := rfl
@[simp] theorem State.setCache_vref (c : Channel) (code : Byte) (volt : Volt) :
    (s.setCache c code volt).vref = s.vref := rfl
@[simp] theorem State.setCache_dacData (c : Channel) (code : Byte) (volt : Volt) :
    (s.setCache c code volt).dacData = s.dacData := rfl
@[simp] theorem State.setCache_lastRaw (c : Channel) (code : Byte) (volt : Volt) :
    (s.setCache c code volt).lastRaw = s.lastRaw.set c code := rfl
@[simp] theorem State.setCache_lastConv (c : Channel) (code : Byte) (volt : Volt) :
    (s.setCache c code volt).lastConv = s.lastConv.set c volt := rfl
@[simp] theorem State.setCache_vin (c : Channel) (code : Byte) (volt : Volt) :
    (s.setCache c code volt).vin = s.vin := rfl
@[simp] theorem State.setCache_vrefIn (c : Channel) (code : Byte) (volt : Volt) :
    (s.setCache c code volt).vrefIn = s.vrefIn := rfl
@[simp] theorem State.setCache_status (c : Channel) (code : Byte) (volt : Volt) :
    (s.setCache c code volt).status = s.status := rfl
@[simp] theorem State.setCache_results (c : Channel) (code : Byte) (volt : Volt) :
    (s.setCache c code volt).results = s.results := rfl
@[simp] theorem State.setCache_seq (c : Channel) (code : Byte) (volt : Volt) :
    (s.setCache c code volt).seq = s.seq := rfl
@[simp] theorem State.setCache_trace (c : Channel) (code : Byte) (volt : Volt) :
    (s.setCache c code volt).trace = s.trace := rfl
@[simp] theorem State.setCache_refused (c : Channel) (code : Byte) (volt : Volt) :
    (s.setCache c code volt).refused = s.refused := rfl
@[simp] theorem State.setCache_fault (c : Channel) (code : Byte) (volt : Volt) :
    (s.setCache c code volt).fault = s.fault := rfl
@[simp] theorem State.setCache_params (c : Channel) (code : Byte) (volt : Volt) :
    (s.setCache c code volt).params = s.params := rfl
@[simp] theorem State.setCache_portId (c : Channel) (code : Byte) (volt : Volt) :
    (s.setCache c code volt).portId = s.portId := rfl
@[simp] theorem State.setCache_port (c : Channel) (code : Byte) (volt : Volt) :
    (s.setCache c code volt).port = s.port := rfl
@[simp] theorem State.setCache_draws (c : Channel) (code : Byte) (volt : Volt) :
    (s.setCache c code volt).draws = s.draws := rfl
@[simp] theorem State.setCache_phases (c : Channel) (code : Byte) (volt : Volt) :
    (s.setCache c code volt).phases = s.phases := rfl
@[simp] theorem State.setCache_host (c : Channel) (code : Byte) (volt : Volt) :
    (s.setCache c code volt).host = s.host := rfl
@[simp] theorem State.setCache_replies (c : Channel) (code : Byte) (volt : Volt) :
    (s.setCache c code volt).replies = s.replies := rfl
@[simp] theorem State.setCache_answerAt (c : Channel) (code : Byte) (volt : Volt) (k : Nat) :
    (s.setCache c code volt).answerAt k = s.answerAt k := rfl

/-! `State.reply`. -/

@[simp] theorem State.reply_session (v : HostValue) : (s.reply v).session = s.session := rfl
@[simp] theorem State.reply_cb (v : HostValue) : (s.reply v).cb = s.cb := rfl
@[simp] theorem State.reply_vref (v : HostValue) : (s.reply v).vref = s.vref := rfl
@[simp] theorem State.reply_dacData (v : HostValue) : (s.reply v).dacData = s.dacData := rfl
@[simp] theorem State.reply_lastRaw (v : HostValue) : (s.reply v).lastRaw = s.lastRaw := rfl
@[simp] theorem State.reply_lastConv (v : HostValue) : (s.reply v).lastConv = s.lastConv := rfl
@[simp] theorem State.reply_vin (v : HostValue) : (s.reply v).vin = s.vin := rfl
@[simp] theorem State.reply_vrefIn (v : HostValue) : (s.reply v).vrefIn = s.vrefIn := rfl
@[simp] theorem State.reply_status (v : HostValue) : (s.reply v).status = s.status := rfl
@[simp] theorem State.reply_results (v : HostValue) : (s.reply v).results = s.results := rfl
@[simp] theorem State.reply_seq (v : HostValue) : (s.reply v).seq = s.seq := rfl
@[simp] theorem State.reply_trace (v : HostValue) : (s.reply v).trace = s.trace := rfl
@[simp] theorem State.reply_refused (v : HostValue) : (s.reply v).refused = s.refused := rfl
@[simp] theorem State.reply_fault (v : HostValue) : (s.reply v).fault = s.fault := rfl
@[simp] theorem State.reply_params (v : HostValue) : (s.reply v).params = s.params := rfl
@[simp] theorem State.reply_portId (v : HostValue) : (s.reply v).portId = s.portId := rfl
@[simp] theorem State.reply_port (v : HostValue) : (s.reply v).port = s.port := rfl
@[simp] theorem State.reply_draws (v : HostValue) : (s.reply v).draws = s.draws := rfl
@[simp] theorem State.reply_phases (v : HostValue) : (s.reply v).phases = s.phases := rfl
@[simp] theorem State.reply_host (v : HostValue) : (s.reply v).host = s.host := rfl
@[simp] theorem State.reply_replies (v : HostValue) : (s.reply v).replies = s.replies ++ [v] := rfl
@[simp] theorem State.reply_answerAt (v : HostValue) (k : Nat) :
    (s.reply v).answerAt k = s.answerAt k := rfl

/-! `State.setHost`. -/

@[simp] theorem State.setHost_session (as : List HostAccess) :
    (s.setHost as).session = s.session := rfl
@[simp] theorem State.setHost_cb (as : List HostAccess) : (s.setHost as).cb = s.cb := rfl
@[simp] theorem State.setHost_vref (as : List HostAccess) : (s.setHost as).vref = s.vref := rfl
@[simp] theorem State.setHost_dacData (as : List HostAccess) :
    (s.setHost as).dacData = s.dacData := rfl
@[simp] theorem State.setHost_lastRaw (as : List HostAccess) :
    (s.setHost as).lastRaw = s.lastRaw := rfl
@[simp] theorem State.setHost_lastConv (as : List HostAccess) :
    (s.setHost as).lastConv = s.lastConv := rfl
@[simp] theorem State.setHost_vin (as : List HostAccess) : (s.setHost as).vin = s.vin := rfl
@[simp] theorem State.setHost_vrefIn (as : List HostAccess) :
    (s.setHost as).vrefIn = s.vrefIn := rfl
@[simp] theorem State.setHost_status (as : List HostAccess) :
    (s.setHost as).status = s.status := rfl
@[simp] theorem State.setHost_results (as : List HostAccess) :
    (s.setHost as).results = s.results := rfl
@[simp] theorem State.setHost_seq (as : List HostAccess) : (s.setHost as).seq = s.seq := rfl
@[simp] theorem State.setHost_trace (as : List HostAccess) : (s.setHost as).trace = s.trace := rfl
@[simp] theorem State.setHost_refused (as : List HostAccess) :
    (s.setHost as).refused = s.refused := rfl
@[simp] theorem State.setHost_fault (as : List HostAccess) : (s.setHost as).fault = s.fault := rfl
@[simp] theorem State.setHost_params (as : List HostAccess) :
    (s.setHost as).params = s.params := rfl
@[simp] theorem State.setHost_portId (as : List HostAccess) :
    (s.setHost as).portId = s.portId := rfl
@[simp] theorem State.setHost_port (as : List HostAccess) : (s.setHost as).port = s.port := rfl
@[simp] theorem State.setHost_draws (as : List HostAccess) : (s.setHost as).draws = s.draws := rfl
@[simp] theorem State.setHost_phases (as : List HostAccess) :
    (s.setHost as).phases = s.phases := rfl
@[simp] theorem State.setHost_host (as : List HostAccess) : (s.setHost as).host = as := rfl
@[simp] theorem State.setHost_replies (as : List HostAccess) :
    (s.setHost as).replies = s.replies := rfl
@[simp] theorem State.setHost_answerAt (as : List HostAccess) (k : Nat) :
    (s.setHost as).answerAt k = s.answerAt k := rfl

/-! `State.takeAnswer`. -/

@[simp] theorem State.takeAnswer_session (e : BusEvent) :
    (s.takeAnswer e).session = s.session := rfl
@[simp] theorem State.takeAnswer_cb (e : BusEvent) : (s.takeAnswer e).cb = s.cb := rfl
@[simp] theorem State.takeAnswer_vref (e : BusEvent) : (s.takeAnswer e).vref = s.vref := rfl
@[simp] theorem State.takeAnswer_dacData (e : BusEvent) :
    (s.takeAnswer e).dacData = s.dacData := rfl
@[simp] theorem State.takeAnswer_lastRaw (e : BusEvent) :
    (s.takeAnswer e).lastRaw = s.lastRaw := rfl
@[simp] theorem State.takeAnswer_lastConv (e : BusEvent) :
    (s.takeAnswer e).lastConv = s.lastConv := rfl
@[simp] theorem State.takeAnswer_vin (e : BusEvent) : (s.takeAnswer e).vin = s.vin := rfl
@[simp] theorem State.takeAnswer_vrefIn (e : BusEvent) : (s.takeAnswer e).vrefIn = s.vrefIn := rfl
@[simp] theorem State.takeAnswer_status (e : BusEvent) : (s.takeAnswer e).status = s.status := rfl
@[simp] theorem State.takeAnswer_results (e : BusEvent) :
    (s.takeAnswer e).results = s.results := rfl
@[simp] theorem State.takeAnswer_seq (e : BusEvent) : (s.takeAnswer e).seq = s.seq := rfl
@[simp] theorem State.takeAnswer_trace (e : BusEvent) :
    (s.takeAnswer e).trace = s.trace ++ [e] := rfl
@[simp] theorem State.takeAnswer_refused (e : BusEvent) :
    (s.takeAnswer e).refused = s.refused := rfl
@[simp] theorem State.takeAnswer_fault (e : BusEvent) : (s.takeAnswer e).fault = s.fault := rfl
@[simp] theorem State.takeAnswer_params (e : BusEvent) : (s.takeAnswer e).params = s.params := rfl
@[simp] theorem State.takeAnswer_portId (e : BusEvent) : (s.takeAnswer e).portId = s.portId := rfl
@[simp] theorem State.takeAnswer_port (e : BusEvent) : (s.takeAnswer e).port = s.port.drop 1 := rfl
@[simp] theorem State.takeAnswer_draws (e : BusEvent) : (s.takeAnswer e).draws = s.draws + 1 := rfl
@[simp] theorem State.takeAnswer_phases (e : BusEvent) : (s.takeAnswer e).phases = s.phases := rfl
@[simp] theorem State.takeAnswer_host (e : BusEvent) : (s.takeAnswer e).host = s.host := rfl
@[simp] theorem State.takeAnswer_replies (e : BusEvent) :
    (s.takeAnswer e).replies = s.replies := rfl

/-- Taking one answer leaves the later ones: request k+1 becomes request k (R130). -/
@[simp] theorem State.takeAnswer_answerAt (e : BusEvent) (k : Nat) :
    (s.takeAnswer e).answerAt k = s.answerAt (k + 1) := by
  simp only [State.answerAt, State.takeAnswer, List.getElem?_drop, Nat.add_comm 1 k]
  cases s.port[k + 1]? with
  | none => simp only [Nat.add_assoc, Nat.add_comm 1 k]
  | some a => rfl

/-- An error's end is a command's end with the error's STATUS (R14). -/
@[simp] theorem State.raise_eq (e : CmdError) : s.raise e = s.finish e.status := rfl

/-- The answer to the next request is the answer at 0. -/
@[simp] theorem State.answer_eq : s.answer = s.answerAt 0 := rfl

end Sys2Proof.Machine
end

