-- ==== Sys2Proof/Laws/Ops.lean ====
section
/-! SUPPORT. What admission and the reading of operands can do (spec/30_encoding.md R89 to R94). -/

namespace Sys2Proof.Machine

theorem admitReady_ready {s : State} (h : s.session = .ready) (rule : State → State) :
    admitReady s rule = .next (rule s.clearResults) := by
  simp only [admitReady, h, admitCommand]

theorem admitReady_uninitialized {s : State} (h : s.session = .uninitialized)
    (rule : State → State) : admitReady s rule = .next (s.refuse .notInitialized) := by
  simp only [admitReady, h]

/-- Everything the session gate can do. -/
theorem admitReady_cases {s t : State} {rule : State → State} (h : admitReady s rule = .next t) :
    (s.session = .uninitialized ∧ t = s.refuse .notInitialized) ∨
      (s.session = .ready ∧ t = rule s.clearResults) := by
  cases hs : s.session with
  | uninitialized =>
    rw [admitReady_uninitialized hs] at h
    exact .inl ⟨rfl, (Host.Outcome.next.inj h).symm⟩
  | ready =>
    rw [admitReady_ready hs] at h
    exact .inr ⟨rfl, (Host.Outcome.next.inj h).symm⟩

theorem withVin_some {s : State} {v : Volt} (h : s.vin = some v) (k : Volt → State) :
    withVin s k = k v := by
  simp only [withVin, h]

theorem withVin_none {s : State} (h : s.vin = none) (k : Volt → State) :
    withVin s k = (s.faultAt .readUnwritten).idleSeq := by
  simp only [withVin, h]

theorem withReference_pos {r : Volt} (hr : 0 < r) (s : State) (k : Volt → State) :
    withReference s (some r) k = k r := by
  simp only [withReference, if_neg (not_le.mpr hr)]

theorem withReference_nonpos {r : Volt} (hr : r ≤ 0) (s : State) (k : Volt → State) :
    withReference s (some r) k = (s.refuse .nonPositiveReference).idleSeq := by
  simp only [withReference, if_pos hr]

theorem withReference_none (s : State) (k : Volt → State) :
    withReference s none k = (s.faultAt .readUnwritten).idleSeq := rfl

/-- Everything a read of VIN can do. -/
theorem withVin_elim {P : State → Prop} {s : State} {k : Volt → State}
    (unwritten : s.vin = none → P (s.faultAt .readUnwritten).idleSeq)
    (value : ∀ v, s.vin = some v → P (k v)) : P (withVin s k) := by
  cases h : s.vin with
  | none => rw [withVin_none h]; exact unwritten h
  | some v => rw [withVin_some h]; exact value v h

/-- Everything a read of a reference can do. -/
theorem withReference_elim {P : State → Prop} {s : State} {ref : Option Volt} {k : Volt → State}
    (unwritten : ref = none → P (s.faultAt .readUnwritten).idleSeq)
    (nonPositive : ∀ r, ref = some r → r ≤ 0 → P (s.refuse .nonPositiveReference).idleSeq)
    (value : ∀ r, ref = some r → 0 < r → P (k r)) : P (withReference s ref k) := by
  cases ref with
  | none => exact unwritten rfl
  | some r =>
    by_cases hr : r ≤ 0
    · rw [withReference_nonpos hr]; exact nonPositive r rfl hr
    · rw [withReference_pos (not_le.mp hr)]; exact value r rfl (not_le.mp hr)

end Sys2Proof.Machine
end

