-- ==== Sys2Proof/Laws/Sequencer.lean ====
section
/-! SUPPORT. What each transport request and each transaction shape can do (spec/42_sequencer.md
R127 to R138). -/

namespace Sys2Proof.Machine

variable {P : State → Prop} {s : State}

/-- Everything a probe can do. -/
theorem busProbe_elim {k : Bool → State → State}
    (silent : s.answerAt 0 = none → P s)
    (answered : ∀ a, s.answerAt 0 = some a →
      P (k a.ok (s.takeAnswer (.probe Config.devAddr a.ok)))) :
    P (busProbe s k) := by
  unfold busProbe
  rw [State.answer_eq]
  cases h : s.answerAt 0 with
  | none => exact silent h
  | some a => exact answered a h

/-- Everything a transmit can do. -/
theorem busTx_elim {bytes : List Byte} {k : Bool → State → State}
    (silent : s.answerAt 0 = none → P s)
    (answered : ∀ a, s.answerAt 0 = some a →
      P (k a.ok (s.takeAnswer (.tx Config.devAddr bytes a.ok)))) :
    P (busTx s bytes k) := by
  unfold busTx
  rw [State.answer_eq]
  cases h : s.answerAt 0 with
  | none => exact silent h
  | some a => exact answered a h

/-- Everything a receive can do. -/
theorem busRx_elim {n : Nat} {hn : n ≤ 5} {k : Option (Vector Byte n) → State → State}
    (silent : s.answerAt 0 = none → P s)
    (failed : ∀ a, s.answerAt 0 = some a → a.ok = false →
      P (k none (s.takeAnswer (.rx Config.devAddr n none))))
    (received : ∀ a, s.answerAt 0 = some a → a.ok = true →
      P (k (some (receivedBytes a n hn))
        (s.takeAnswer (.rx Config.devAddr n (some (receivedBytes a n hn).toList))))) :
    P (busRx s n hn k) := by
  unfold busRx
  rw [State.answer_eq]
  cases h : s.answerAt 0 with
  | none => exact silent h
  | some a =>
    cases ho : a.ok with
    | false => simpa only [ho, Bool.false_eq_true, if_false] using failed a h ho
    | true => simpa only [ho, if_true] using received a h ho

/-- Everything a command-only write can do (R132). -/
theorem txCmd_elim {k : State → State}
    (silent : s.answerAt 0 = none → P (s.setSeq .txCmd))
    (failed : ∀ a, s.answerAt 0 = some a → a.ok = false →
      P (((s.setSeq .txCmd).takeAnswer (.tx Config.devAddr [s.cb] false)).raise .busTransferFailed))
    (sent : ∀ a, s.answerAt 0 = some a → a.ok = true →
      P (k ((s.setSeq .txCmd).takeAnswer (.tx Config.devAddr [s.cb] true)))) :
    P (txCmd s k) := by
  unfold txCmd
  refine busTx_elim silent fun a h => ?_
  cases ho : a.ok with
  | false => simpa only [Bool.false_eq_true, if_false] using failed a h ho
  | true => simpa only [if_true] using sent a h ho

/-- Everything a command+data write can do (R133). -/
theorem txCmdData_elim {k : State → State}
    (unwritten : s.dacData = none → P (s.faultAt .readUnwritten).idleSeq)
    (silent : ∀ d, s.dacData = some d → s.answerAt 0 = none → P (s.setSeq .txCmdData))
    (failed : ∀ d a, s.dacData = some d → s.answerAt 0 = some a → a.ok = false →
      P (((s.setSeq .txCmdData).takeAnswer (.tx Config.devAddr [s.cb, d] false)).raise
        .busTransferFailed))
    (sent : ∀ d a, s.dacData = some d → s.answerAt 0 = some a → a.ok = true →
      P (k ((s.setSeq .txCmdData).takeAnswer (.tx Config.devAddr [s.cb, d] true)))) :
    P (txCmdData s k) := by
  unfold txCmdData
  cases hd : s.dacData with
  | none => exact unwritten hd
  | some d =>
    refine busTx_elim (silent d hd) fun a h => ?_
    cases ho : a.ok with
    | false => simpa only [Bool.false_eq_true, if_false] using failed d a hd h ho
    | true => simpa only [if_true] using sent d a hd h ho

/-- The state in which a Read-N issues its receive. -/
def State.sent (s : State) : State :=
  ((s.setSeq .txCmd).takeAnswer (.tx Config.devAddr [s.cb] true)).setSeq .rx

/-- Everything a Read-N can do (R134, R137): the receive is issued only after a good
command-only write, and byte 0 is discarded. -/
theorem readN_elim {n : Nat} {hn : n ≤ 4} {k : Vector Byte n → State → State}
    (silentTx : s.answerAt 0 = none → P (s.setSeq .txCmd))
    (failedTx : ∀ a, s.answerAt 0 = some a → a.ok = false →
      P (((s.setSeq .txCmd).takeAnswer (.tx Config.devAddr [s.cb] false)).raise .busTransferFailed))
    (silentRx : s.answerAt 1 = none → P s.sent)
    (failedRx : ∀ a, s.answerAt 1 = some a → a.ok = false →
      P ((s.sent.takeAnswer (.rx Config.devAddr (n + 1) none)).raise .busTransferFailed))
    (received : ∀ a, s.answerAt 1 = some a → a.ok = true →
      P (k (discardStale n (receivedBytes a (n + 1) (Nat.succ_le_succ hn)))
        (s.sent.takeAnswer (.rx Config.devAddr (n + 1)
          (some (receivedBytes a (n + 1) (Nat.succ_le_succ hn)).toList))))) :
    P (readN s n hn k) := by
  unfold readN
  have next : s.sent.answerAt 0 = s.answerAt 1 := by
    simp only [State.sent, State.setSeq_answerAt, State.takeAnswer_answerAt, Nat.zero_add]
  exact txCmd_elim silentTx failedTx fun _ _ _ =>
    busRx_elim (fun h => silentRx (next.symm.trans h)) (fun a h => failedRx a (next.symm.trans h))
      fun a h => received a (next.symm.trans h)

/-- Reading k of a Read-N is received byte k+1 (R136). -/
@[simp] theorem discardStale_receivedBytes (a : PortAnswer) (n : Nat) (hn : n + 1 ≤ 5) (j : Nat)
    (hj : j < n) : (discardStale n (receivedBytes a (n + 1) hn))[j] = a.bytes[j + 1] := by
  simp only [discardStale, receivedBytes, Vector.getElem_ofFn]

end Sys2Proof.Machine
end

