-- ==== Sys2Proof/Laws/Commands.lean ====
section
/-! SUPPORT. What each session command's rule can do (spec/43_session.md), and the inversion of
`exec`. -/

namespace Sys2Proof.Machine

variable {P : State → Prop} {s : State}

/-- The state INIT probes in: VREF is written first (R146). -/
def State.probing (s : State) (r : Volt) : State := (s.setVref r).setSeq .probe

/-- The state INIT transmits from: the probe answered ready, and CB is composed (R147). -/
def State.composed (s : State) (r : Volt) (b : Byte) (a : Nibble) : State :=
  ((s.probing r).takeAnswer (.probe Config.devAddr true)).setCb
    (initCompose s.params.reinitPolicy s.cb (enableDacArg b) (modeArg a))

/-- Everything INIT can do. -/
theorem execInit_elim {b : Byte} {a : Nibble} {t : State} (h : exec (.init b a) s = .next t)
    (unwritten : s.vrefIn = none → P (s.clearResults.faultAt .readUnwritten).idleSeq)
    (nonPositive : ∀ r, s.vrefIn = some r → r ≤ 0 →
      P (s.clearResults.refuse .nonPositiveReference).idleSeq)
    (silentProbe : ∀ r, s.vrefIn = some r → 0 < r → s.answerAt 0 = none →
      P (s.clearResults.probing r))
    (notReady : ∀ r, s.vrefIn = some r → 0 < r →
      P (((s.clearResults.probing r).takeAnswer (.probe Config.devAddr false)).raise
        .deviceNotReady))
    (silentTx : ∀ r, s.vrefIn = some r → 0 < r → s.answerAt 1 = none →
      P ((s.clearResults.composed r b a).setSeq .txCmd))
    (failedTx : ∀ r, s.vrefIn = some r → 0 < r →
      P ((((s.clearResults.composed r b a).setSeq .txCmd).takeAnswer
        (.tx Config.devAddr [(s.clearResults.composed r b a).cb] false)).raise .busTransferFailed))
    (good : ∀ r, s.vrefIn = some r → 0 < r →
      P (((((s.clearResults.composed r b a).setSeq .txCmd).takeAnswer
        (.tx Config.devAddr [(s.clearResults.composed r b a).cb] true)).setSession .ready).finish
          .ok)) :
    P t := by
  obtain rfl := (Host.Outcome.next.inj h)
  refine withReference_elim unwritten nonPositive fun r hr h0 => ?_
  refine busProbe_elim (silentProbe r hr h0) fun p _ => ?_
  cases p.ok with
  | false => exact notReady r hr h0
  | true =>
    simp only [if_true]
    have next : (s.clearResults.composed r b a).answerAt 0 = s.answerAt 1 := by
      simp only [State.composed, State.probing, State.setCb_answerAt, State.takeAnswer_answerAt,
        State.setSeq_answerAt, State.setVref_answerAt, State.clearResults_answerAt, Nat.zero_add]
    exact txCmd_elim (fun hn => silentTx r hr h0 (next.symm.trans hn))
      (fun _ _ _ => failedTx r hr h0) fun _ _ _ => good r hr h0

/-- The state WRITE_* transmits from: CB and DAC_DATA are written (R150). -/
def State.dacReady (s : State) (code : Byte) : State :=
  ((s.setCb (fnEnableDac s.cb true)).setDacData code).setSeq .txCmdData

/-- Everything the shared path of WRITE_RAW and WRITE_VOLTAGE can do (R150, R151). -/
theorem writeDac_elim {code : Byte}
    (silent : s.answerAt 0 = none → P (s.dacReady code))
    (failed : ∀ a, s.answerAt 0 = some a → a.ok = false →
      P (((s.dacReady code).takeAnswer
        (.tx Config.devAddr [fnEnableDac s.cb true, code] false)).raise .busTransferFailed))
    (good : ∀ a, s.answerAt 0 = some a → a.ok = true →
      P (((s.dacReady code).takeAnswer
        (.tx Config.devAddr [fnEnableDac s.cb true, code] true)).finish .ok)) :
    P (writeDac s code) := by
  refine txCmdData_elim (fun h => nomatch h) (fun _ _ => silent) (fun d a hd => ?_)
    (fun d a hd => ?_)
  · obtain rfl := Option.some.inj hd
    exact failed a
  · obtain rfl := Option.some.inj hd
    exact good a

/-- The state a read commits from: the receive answered with `bytes` (R134). -/
def State.receivedReply (s : State) (n : Nat) (bytes : List Byte) : State :=
  s.sent.takeAnswer (.rx Config.devAddr n (some bytes))

/-- Everything the shared path of the READ_CHANNEL commands can do (R153, R154). -/
theorem readChannel_elim {a : Nibble} {results : Byte → Volt → Results}
    (invalid : 3 < a → P (s.raise .invalidChannel))
    (silentTx : ∀ cb, fnSetChannel s.cb a = .ok cb → s.answerAt 0 = none →
      P ((s.setCb cb).setSeq .txCmd))
    (failedTx : ∀ cb, fnSetChannel s.cb a = .ok cb →
      P ((((s.setCb cb).setSeq .txCmd).takeAnswer (.tx Config.devAddr [cb] false)).raise
        .busTransferFailed))
    (silentRx : ∀ cb, fnSetChannel s.cb a = .ok cb → s.answerAt 1 = none → P (s.setCb cb).sent)
    (failedRx : ∀ cb, fnSetChannel s.cb a = .ok cb →
      P (((s.setCb cb).sent.takeAnswer (.rx Config.devAddr 2 none)).raise .busTransferFailed))
    (unwritten : ∀ cb bytes, fnSetChannel s.cb a = .ok cb → s.vref = none →
      P (((s.setCb cb).receivedReply 2 bytes).faultAt .readUnwritten).idleSeq)
    (nonPositive : ∀ cb bytes r, fnSetChannel s.cb a = .ok cb → s.vref = some r → r ≤ 0 →
      P (((s.setCb cb).receivedReply 2 bytes).refuse .nonPositiveReference).idleSeq)
    (good : ∀ cb p r, fnSetChannel s.cb a = .ok cb → s.vref = some r → 0 < r →
      s.answerAt 1 = some p →
      P ((commit (((s.setCb cb).receivedReply 2 (receivedBytes p 2 (by decide)).toList).setSeq
        .commit) r (channelArg a) p.bytes[1]).finishWith (results p.bytes[1] r))) :
    P (readChannel s a results) := by
  unfold readChannel
  by_cases ha : 3 < a
  · rw [fnSetChannel_invalid ha]; exact invalid ha
  · rw [fnSetChannel_valid ha]
    have hc := fnSetChannel_valid ha s.cb
    refine readN_elim (silentTx _ hc) (fun _ _ _ => failedTx _ hc) (silentRx _ hc)
      (fun _ _ _ => failedRx _ hc) fun p hp _ => ?_
    refine withReference_elim (unwritten _ _ hc) (nonPositive _ _ · hc) fun r hr h0 => ?_
    rw [discardStale_receivedBytes]
    exact good _ p r hc hr h0 hp

/-- Everything the shared path of the READ_ALL commands can do (R155). -/
theorem readAll_elim {results : Vector Byte 4 → Volt → Results}
    (silentTx : s.answerAt 0 = none → P ((s.setCb (fnClearAi s.cb)).setSeq .txCmd))
    (failedTx : P ((((s.setCb (fnClearAi s.cb)).setSeq .txCmd).takeAnswer
      (.tx Config.devAddr [fnClearAi s.cb] false)).raise .busTransferFailed))
    (silentRx : s.answerAt 1 = none → P (s.setCb (fnClearAi s.cb)).sent)
    (failedRx : P (((s.setCb (fnClearAi s.cb)).sent.takeAnswer
      (.rx Config.devAddr 5 none)).raise .busTransferFailed))
    (unwritten : ∀ bytes, s.vref = none →
      P (((s.setCb (fnClearAi s.cb)).receivedReply 5 bytes).faultAt .readUnwritten).idleSeq)
    (nonPositive : ∀ bytes r, s.vref = some r → r ≤ 0 →
      P (((s.setCb (fnClearAi s.cb)).receivedReply 5 bytes).refuse .nonPositiveReference).idleSeq)
    (good : ∀ p r, s.vref = some r → 0 < r → s.answerAt 1 = some p →
      P ((commitAll (((s.setCb (fnClearAi s.cb)).receivedReply 5
        (receivedBytes p 5 (by decide)).toList).setSeq .commit) r
          (discardStale 4 (receivedBytes p 5 (by decide)))).finishWith
            (results (discardStale 4 (receivedBytes p 5 (by decide))) r))) :
    P (readAll s results) := by
  refine readN_elim silentTx (fun _ _ _ => failedTx) silentRx (fun _ _ _ => failedRx)
    fun p hp _ => ?_
  exact withReference_elim (unwritten _) (nonPositive _) fun r hr h0 => good p r hr h0 hp

/-! The inversion of `exec`, command by command: from `exec i s = .next t`, what `t` may be. -/

/-- A property of what an outcome's next state equals is one of the next state. -/
theorem next_elim {x t : State} (h : (Host.Outcome.next x : Host.Outcome State Fault Refusal) = .next t)
    (hx : P x) : P t := by
  obtain rfl := Host.Outcome.next.inj h
  exact hx

/-- Everything the admission of a session command other than INIT can do (R90). -/
theorem admitReady_elim {t : State} {rule : State → State} (h : admitReady s rule = .next t)
    (gated : s.session = .uninitialized → P (s.refuse .notInitialized))
    (run : s.session = .ready → P (rule s.clearResults)) : P t := by
  obtain ⟨hu, rfl⟩ | ⟨hs, rfl⟩ := admitReady_cases h
  · exact gated hu
  · exact run hs

/-- Everything CR_SET_CHANNEL can do. -/
theorem execCrSetChannel_elim {b : Byte} {a : Nibble} {t : State}
    (h : exec (.crSetChannel b a) s = .next t)
    (invalid : 3 < a → P (s.clearResults.raise .invalidChannel))
    (good : ∀ r, fnSetChannel b a = .ok r →
      P (s.clearResults.finishWith (Results.ofByte r))) : P t := by
  refine next_elim h ?_
  by_cases ha : 3 < a
  · rw [fnSetChannel_invalid ha]; exact invalid ha
  · rw [fnSetChannel_valid ha]; exact good _ (fnSetChannel_valid ha b)

/-- Everything CONV_C2V can do. -/
theorem execConvC2v_elim {b : Byte} {t : State} (h : exec (.convC2v b) s = .next t)
    (unwritten : s.vrefIn = none → P (s.clearResults.faultAt .readUnwritten).idleSeq)
    (nonPositive : ∀ r, s.vrefIn = some r → r ≤ 0 →
      P (s.clearResults.refuse .nonPositiveReference).idleSeq)
    (good : ∀ r, s.vrefIn = some r → 0 < r →
      P (s.clearResults.finishWith (Results.ofVolt (codeToVoltage b r)))) : P t :=
  next_elim h (withReference_elim unwritten nonPositive good)

/-- Everything CONV_V2C can do. -/
theorem execConvV2c_elim {t : State} (h : exec .convV2c s = .next t)
    (unwritten : s.vin = none ∨ s.vrefIn = none →
      P (s.clearResults.faultAt .readUnwritten).idleSeq)
    (nonPositive : ∀ v r, s.vin = some v → s.vrefIn = some r → r ≤ 0 →
      P (s.clearResults.refuse .nonPositiveReference).idleSeq)
    (good : ∀ v r, s.vin = some v → s.vrefIn = some r → 0 < r →
      P (s.clearResults.finishWith
        (Results.ofByte (voltageToCode s.params.roundMode v r)))) : P t :=
  next_elim h (withVin_elim (fun hv => unwritten (.inl hv)) fun v hv =>
    withReference_elim (fun hr => unwritten (.inr hr)) (nonPositive v · hv) (good v · hv))

/-- Everything WRITE_RAW can do. -/
theorem execWriteRaw_elim {b : Byte} {t : State} (h : exec (.writeRaw b) s = .next t)
    (gated : s.session = .uninitialized → P (s.refuse .notInitialized))
    (run : s.session = .ready → P (writeDac s.clearResults b)) : P t :=
  admitReady_elim h gated run

/-- Everything WRITE_VOLTAGE can do before the shared path. -/
theorem execWriteVoltage_elim {t : State} (h : exec .writeVoltage s = .next t)
    (gated : s.session = .uninitialized → P (s.refuse .notInitialized))
    (unwritten : s.session = .ready → s.vin = none ∨ s.vref = none →
      P (s.clearResults.faultAt .readUnwritten).idleSeq)
    (nonPositive : ∀ v r, s.session = .ready → s.vin = some v → s.vref = some r → r ≤ 0 →
      P (s.clearResults.refuse .nonPositiveReference).idleSeq)
    (run : ∀ v r, s.session = .ready → s.vin = some v → s.vref = some r → 0 < r →
      P (writeDac s.clearResults (voltageToCode s.params.roundMode (clampVolt v 0 r) r))) : P t :=
  admitReady_elim h gated fun hs =>
    withVin_elim (fun hv => unwritten hs (.inl hv)) fun v hv =>
      withReference_elim (fun hr => unwritten hs (.inr hr)) (nonPositive v · hs hv)
        (run v · hs hv)

/-- Everything READ_CHANNEL_RAW can do. -/
theorem execReadChannelRaw_elim {a : Nibble} {t : State}
    (h : exec (.readChannelRaw a) s = .next t)
    (gated : s.session = .uninitialized → P (s.refuse .notInitialized))
    (run : s.session = .ready →
      P (readChannel s.clearResults a fun code _ => Results.ofByte code)) : P t :=
  admitReady_elim h gated run

/-- Everything READ_CHANNEL_VOLTAGE can do. -/
theorem execReadChannelVoltage_elim {a : Nibble} {t : State}
    (h : exec (.readChannelVoltage a) s = .next t)
    (gated : s.session = .uninitialized → P (s.refuse .notInitialized))
    (run : s.session = .ready →
      P (readChannel s.clearResults a fun code r => Results.ofVolt (codeToVoltage code r))) : P t :=
  admitReady_elim h gated run

/-- Everything READ_ALL_RAW can do. -/
theorem execReadAllRaw_elim {t : State} (h : exec .readAllRaw s = .next t)
    (gated : s.session = .uninitialized → P (s.refuse .notInitialized))
    (run : s.session = .ready →
      P (readAll s.clearResults fun codes _ => Results.ofCodes codes)) : P t :=
  admitReady_elim h gated run

/-- Everything READ_ALL_VOLTAGE can do. -/
theorem execReadAllVoltage_elim {t : State} (h : exec .readAllVoltage s = .next t)
    (gated : s.session = .uninitialized → P (s.refuse .notInitialized))
    (run : s.session = .ready →
      P (readAll s.clearResults fun codes r =>
        Results.ofVolts (codes.map fun code => codeToVoltage code r))) : P t :=
  admitReady_elim h gated run

end Sys2Proof.Machine
end

