-- ==== Sys2Proof/Laws/Converter.lean ====
section
/-! SUPPORT. The arithmetic of the converter (spec/41_conversion.md R113 to R116). -/

namespace Sys2Proof.Machine

/-- A clamped voltage lies in the range (R115). -/
theorem clampVolt_mem {hi : Volt} (v : Volt) (h : 0 ≤ hi) :
    0 ≤ clampVolt v 0 hi ∧ clampVolt v 0 hi ≤ hi :=
  ⟨le_min (le_max_right v 0) h, min_le_right _ _⟩

/-- A voltage in the range is left unchanged (R115). -/
theorem clampVolt_of_mem {v hi : Volt} (h0 : 0 ≤ v) (h : v ≤ hi) : clampVolt v 0 hi = v := by
  simp only [clampVolt, max_eq_left h0, min_eq_left h]

/-- The floor of an exact rational is the integer below it (R10). -/
theorem floor_bounds (x : Volt) : (x.floor : Volt) ≤ x ∧ x < x.floor + 1 :=
  ⟨Int.floor_le x, Int.lt_floor_add_one x⟩

end Sys2Proof.Machine
end

