-- ==== Sys2Proof/Laws/Decode.lean ====
section
/-! SUPPORT. The fields of a packed word (spec/30_encoding.md R73, R75). -/

namespace Sys2Proof

/-- The bits of a packed word: B below A below OP (R73). -/
theorem packWord_getLsbD (op a : Nibble) (b : Byte) (k : Nat) :
    (packWord op a b).getLsbD k =
      if k < 8 then b.getLsbD k
      else if k < 12 then a.getLsbD (k - 8) else op.getLsbD (k - 12) := by
  change ((op ++ a) ++ b).getLsbD k = _
  rw [BitVec.getLsbD_append, BitVec.getLsbD_append]
  by_cases h8 : k < 8
  · simp only [h8, if_true]
  · by_cases h12 : k < 12
    · have h4 : k - 8 < 4 := by omega
      simp only [h8, h12, h4, if_false, if_true]
    · have h4 : ¬ k - 8 < 4 := by omega
      have hk : k - 8 - 4 = k - 12 := by omega
      simp only [h8, h12, h4, hk, if_false]

@[simp] theorem fieldOp_packWord (op a : Nibble) (b : Byte) : fieldOp (packWord op a b) = op := by
  refine BitVec.eq_of_getLsbD_eq fun j hj => ?_
  have h8 : ¬ 12 + j < 8 := by omega
  have h12 : ¬ 12 + j < 12 := by omega
  simp only [fieldOp, BitVec.getLsbD_extractLsb', packWord_getLsbD, hj, h8, h12, if_false,
    decide_true, Bool.true_and, Nat.add_sub_cancel_left]

@[simp] theorem fieldA_packWord (op a : Nibble) (b : Byte) : fieldA (packWord op a b) = a := by
  refine BitVec.eq_of_getLsbD_eq fun j hj => ?_
  have h8 : ¬ 8 + j < 8 := by omega
  have h12 : 8 + j < 12 := by omega
  simp only [fieldA, BitVec.getLsbD_extractLsb', packWord_getLsbD, hj, h8, h12, if_false, if_true,
    decide_true, Bool.true_and, Nat.add_sub_cancel_left]

@[simp] theorem fieldB_packWord (op a : Nibble) (b : Byte) : fieldB (packWord op a b) = b := by
  refine BitVec.eq_of_getLsbD_eq fun j hj => ?_
  simp only [fieldB, BitVec.getLsbD_extractLsb', packWord_getLsbD, hj, if_true,
    decide_true, Bool.true_and, Nat.zero_add]

/-- A word is its three fields packed (R73, R75). -/
theorem packWord_fields (w : Word) : packWord (fieldOp w) (fieldA w) (fieldB w) = w := by
  refine BitVec.eq_of_getLsbD_eq fun j hj => ?_
  rw [packWord_getLsbD]
  by_cases h8 : j < 8
  · simp only [h8, if_true, fieldB, BitVec.getLsbD_extractLsb', decide_true, Bool.true_and,
      Nat.zero_add]
  · by_cases h12 : j < 12
    · have h4 : j - 8 < 4 := by omega
      have hk : 8 + (j - 8) = j := by omega
      simp only [h8, h12, h4, hk, if_false, if_true, fieldA, BitVec.getLsbD_extractLsb',
        decide_true, Bool.true_and]
    · have h4 : j - 12 < 4 := by omega
      have hk : 12 + (j - 12) = j := by omega
      simp only [h8, h12, h4, hk, if_false, fieldOp, BitVec.getLsbD_extractLsb', decide_true,
        Bool.true_and]

/-- Masking a packed word masks its fields (R79). -/
theorem packWord_and (op op' a a' : Nibble) (b b' : Byte) :
    packWord op a b &&& packWord op' a' b' = packWord (op &&& op') (a &&& a') (b &&& b') := by
  refine BitVec.eq_of_getLsbD_eq fun j hj => ?_
  simp only [BitVec.getLsbD_and, packWord_getLsbD]
  split
  · rfl
  · split <;> rfl

/-- Packed words are equal only field by field. -/
theorem packWord_inj {op op' a a' : Nibble} {b b' : Byte} :
    packWord op a b = packWord op' a' b' ↔ op = op' ∧ a = a' ∧ b = b' := by
  refine ⟨fun h => ⟨?_, ?_, ?_⟩, fun ⟨ho, ha, hb⟩ => by rw [ho, ha, hb]⟩
  · rw [← fieldOp_packWord op a b, h, fieldOp_packWord]
  · rw [← fieldA_packWord op a b, h, fieldA_packWord]
  · rw [← fieldB_packWord op a b, h, fieldB_packWord]

end Sys2Proof
end

