-- ==== Sys2Proof/Laws/PerInstr.lean ====
section
/-! SUPPORT. Facts about every command as syntax, one lemma per constructor. Family OpcodeField: the
OP field of a command's word is its opcode (spec/30_encoding.md R73, R79). -/

namespace Sys2Proof.Laws.OpcodeField

/-- OP of the command's word is the opcode of its mnemonic. -/
def Statement (i : Instr) : Prop := fieldOp (encode i) = i.mnemonic.opcode

theorem crSetChannel (byte : Byte) (channel : Nibble) : Statement (.crSetChannel byte channel) :=
  fieldOp_packWord _ _ _
theorem crSetInputMode (byte : Byte) (mode : Nibble) : Statement (.crSetInputMode byte mode) :=
  fieldOp_packWord _ _ _
theorem crEnableDac (byte : Byte) (enabled : Nibble) : Statement (.crEnableDac byte enabled) :=
  fieldOp_packWord _ _ _
theorem crSetAi (byte : Byte) : Statement (.crSetAi byte) := fieldOp_packWord _ _ _
theorem crClearAi (byte : Byte) : Statement (.crClearAi byte) := fieldOp_packWord _ _ _
theorem crDecode (byte : Byte) : Statement (.crDecode byte) := fieldOp_packWord _ _ _
theorem convC2v (code : Byte) : Statement (.convC2v code) := fieldOp_packWord _ _ _
theorem convV2c : Statement .convV2c := fieldOp_packWord _ _ _
theorem init (enableDac : Byte) (inputMode : Nibble) : Statement (.init enableDac inputMode) :=
  fieldOp_packWord _ _ _
theorem writeRaw (code : Byte) : Statement (.writeRaw code) := fieldOp_packWord _ _ _
theorem writeVoltage : Statement .writeVoltage := fieldOp_packWord _ _ _
theorem readChannelRaw (channel : Nibble) : Statement (.readChannelRaw channel) :=
  fieldOp_packWord _ _ _
theorem readChannelVoltage (channel : Nibble) : Statement (.readChannelVoltage channel) :=
  fieldOp_packWord _ _ _
theorem readAllRaw : Statement .readAllRaw := fieldOp_packWord _ _ _
theorem readAllVoltage : Statement .readAllVoltage := fieldOp_packWord _ _ _

end Sys2Proof.Laws.OpcodeField
end

