-- ==== Sys2Proof/Tests/Slice0.lean ====
section
/-! SUPPORT. Tests: their expected values are those of spec/95_test_vectors.md (V-…, P1) and of the
worked words of spec/30_encoding.md section 5. And the witnesses: for each obligation with hypotheses, a
concrete input that meets them, at the boundary of each clause. -/

namespace Sys2Proof.Tests

open Sys2Proof.Machine

-- One test after another: each that waits for the kernel holds a thread of its own.
set_option Elab.async false

/-! ## Small states -/

/-- An answer ready, or ok. -/
def yes : Option PortAnswer := some ⟨true, #v[0, 0, 0, 0, 0]⟩

/-- An answer not ready, or fail. -/
def no : Option PortAnswer := some ⟨false, #v[0, 0, 0, 0, 0]⟩

/-- A receive that delivers the bytes. -/
def rx (b0 b1 b2 b3 b4 : Byte) : Option PortAnswer := some ⟨true, #v[b0, b1, b2, b3, b4]⟩

/-- A state in Ready, with the port's next answers. -/
def ready (cb : Byte) (vref : Volt) (port : List (Option PortAnswer)) : State :=
  { State.reset with session := .ready, cb := cb, vref := some vref, port := port }

/-- The reset state with a reference operand, and the port's next answers. -/
def withRef (r : Volt) (port : List (Option PortAnswer)) : State :=
  { State.reset with vrefIn := some r, port := port }

/-- The reset state with both voltage operands. -/
def withVolts (v r : Volt) : State := { State.reset with vin := some v, vrefIn := some r }

/-- The state after the step that issues the word `w`. -/
def issued (s : State) (w : Nat) : Option State :=
  match step (s.withFetchWord 16 w) with
  | .next t => some t
  | .fault _ => none
  | .refused _ => none

/-- STATUS and RES_BYTE after the word `w`. -/
def statusByte (s : State) (w : Nat) : Option (Option Status × Option Byte) :=
  (issued s w).map fun t => (t.status, t.results.byte)

/-! ## Well-formedness -/

/-- Form EB has three must-be-zero bits: the ill-formed flags 2 and 15 are refused, 0 and 1 are
not. -/
theorem test_wellFormed_smoke :
    (Instr.crEnableDac 0x40 2).wellFormed = false ∧ (Instr.crEnableDac 0x40 15).wellFormed = false ∧
    (Instr.crEnableDac 0x40 0).wellFormed = true ∧ (Instr.crEnableDac 0x40 1).wellFormed = true ∧
    (Instr.crSetInputMode 0xFF 15).wellFormed = true ∧ (Instr.init 0xFF 15).wellFormed = true := by
  decide

/-! ## Decoding: words written out as OP, A, B from R73, R76 and R79 -/

theorem test_decode_control_register :
    decode 0b0001_0011_01000000 = .ok (.crSetChannel 0x40 3) ∧
    decode 0b0010_0101_01000010 = .ok (.crSetInputMode 0x42 5) ∧
    decode 0b0011_0001_00111111 = .ok (.crEnableDac 0x3F 1) ∧
    decode 0b0100_0000_11111011 = .ok (.crSetAi 0xFB) ∧
    decode 0b0101_0000_00000100 = .ok (.crClearAi 0x04) ∧
    decode 0b0110_0000_01110110 = .ok (.crDecode 0x76) := by decide

theorem test_decode_conversion :
    decode 0b0111_0000_00110011 = .ok (.convC2v 51) ∧
    decode 0b1000_0000_00000000 = .ok .convV2c := by decide

theorem test_decode_session :
    decode 0b1001_1100_00000001 = .ok (.init 1 12) ∧
    decode 0b1010_0000_11001000 = .ok (.writeRaw 200) ∧
    decode 0b1011_0000_00000000 = .ok .writeVoltage ∧
    decode 0b1100_0111_00000000 = .ok (.readChannelRaw 7) ∧
    decode 0b1101_0010_00000000 = .ok (.readChannelVoltage 2) ∧
    decode 0b1110_0000_00000000 = .ok .readAllRaw ∧
    decode 0b1111_0000_00000000 = .ok .readAllVoltage := by decide

/-- V-CR17, V-CR21, V-CR30, V-CV23, V-RD6, V-WR11. -/
theorem test_decode_illegal :
    decode 0x3240 = .error .mustBeZero ∧ decode 0x4140 = .error .mustBeZero ∧
    decode 0x0000 = .error .reservedOpcode ∧ decode 0x0FFF = .error .reservedOpcode ∧
    decode 0x8001 = .error .mustBeZero ∧ decode 0xC110 = .error .mustBeZero ∧
    decode 0xA1C8 = .error .mustBeZero := by decide

/-- The host's numbering: one word of 16 bits, and no longer one. -/
theorem test_decodeTableWord :
    decodeTableWord 16 0x1340 = some (.crSetChannel 0x40 3) ∧ decodeTableWord 16 0x0000 = none ∧
    decodeTableWord 32 0x1340 = none := by decide

/-! ## The assembler -/

/-- Lines of spec/95_test_vectors.md, as operands. -/
theorem test_assemble :
    assemble .crSetChannel [0x40, 3] = some 0x1340 ∧ assemble .init [3, 7] = some 0x9703 ∧
    assemble .crEnableDac [0x40, 2] = some 0x3240 ∧ assemble .readChannelRaw [16] = none ∧
    assemble .writeRaw [256] = none ∧ assemble .readAllRaw [0] = none := by decide

/-- Lines of spec/95_test_vectors.md, as text. -/
theorem test_parseCommand :
    parseCommand "CR_SET_CHANNEL 0xB7, 1".toList = some (.command .crSetChannel [0xB7, 1]) ∧
    parseCommand "READ_ALL_VOLTAGE".toList = some (.command .readAllVoltage []) ∧
    parseCommand "WRITE_RAW 1 2".toList = none ∧
    parseCommand "CR_JUMP 1".toList = none := by decide +kernel

/-! ## Commands -/

/-- V-CR5, V-CR6. -/
theorem test_crSetChannel :
    statusByte State.reset 0x11B7 = some (some .ok, some 0xB5) ∧
    statusByte State.reset 0x1443 = some (some .invalidChannel, none) := by decide +kernel

/-- V-CR11, V-CR12. -/
theorem test_crSetInputMode :
    statusByte State.reset 0x2F8B = some (some .ok, some 0xBB) ∧
    statusByte State.reset 0x2C30 = some (some .ok, some 0x00) := by decide +kernel

/-- V-CR14, V-CR15. -/
theorem test_crEnableDac :
    statusByte State.reset 0x30FF = some (some .ok, some 0xBF) ∧
    statusByte State.reset 0x313F = some (some .ok, some 0x7F) := by decide +kernel

/-- V-CR19. -/
theorem test_crSetAi : statusByte State.reset 0x40FB = some (some .ok, some 0xFF) := by
  decide +kernel

/-- V-CR22. -/
theorem test_crClearAi : statusByte State.reset 0x50FF = some (some .ok, some 0xFB) := by
  decide +kernel

/-- V-CR25, V-CR27. -/
theorem test_crDecode :
    (issued State.reset 0x6076).map State.results =
      some { Results.cleared with ch := some 2, ai := some true, mode := some 3, dac := some true } ∧
    (issued State.reset 0x6088).map State.results =
      some { Results.cleared with
        ch := some 0, ai := some false, mode := some 0, dac := some false } := by decide +kernel

/-- V-CV3, V-CV8, V-CV9. -/
theorem test_convC2v :
    (issued (withRef 3.3 []) 0x7080).map (·.results.volt) = some (some (704 / 425)) ∧
    (issued (withRef 0 []) 0x7000).map State.refused = some (some .nonPositiveReference) ∧
    (issued State.reset 0x7000).map State.fault = some (some .readUnwritten) := by decide +kernel

/-- V-CV13, V-CV14, V-CV15, and V-CV17 under both rounding modes. -/
theorem test_convV2c :
    statusByte (withVolts 5 3.3) 0x8000 = some (some .ok, some 255) ∧
    statusByte (withVolts (-1) 3.3) 0x8000 = some (some .ok, some 0) ∧
    statusByte (withVolts 1 3.3) 0x8000 = some (some .ok, some 77) ∧
    statusByte (withVolts (253 / 102) 5) 0x8000 = some (some .ok, some 127) ∧
    statusByte { withVolts (253 / 102) 5 with params := ⟨.halfEven, .zero⟩ } 0x8000 =
      some (some .ok, some 126) := by decide +kernel

/-- V-IN5, V-IN4. -/
theorem test_init :
    (issued (withRef 3.3 [yes, yes]) 0x9703).map (fun t => (t.session, t.cb, t.vref, t.trace)) =
      some (.ready, 0x70, some 3.3, [.probe 0x48 true, .tx 0x48 [0x70] true]) ∧
    (issued (withRef 3.3 [yes, no]) 0x9201).map (fun t => (t.status, t.session, t.cb, t.trace)) =
      some (some .busTransferFailed, .uninitialized, 0x60,
        [.probe 0x48 true, .tx 0x48 [0x60] false]) := by decide +kernel

/-- V-IN9 under both policies, and V-IN10. -/
theorem test_reinit :
    (issued { ready 0x42 3.3 [yes, yes] with vrefIn := some 5 } 0x9100).map
      (fun t => (t.cb, t.vref, t.session)) = some (0x10, some 5, .ready) ∧
    (issued { ready 0x42 3.3 [yes, yes] with
      vrefIn := some 5, params := ⟨.halfUp, .preserve⟩ } 0x9100).map
      (fun t => (t.cb, t.vref, t.session)) = some (0x12, some 5, .ready) ∧
    (issued { ready 0x42 3.3 [no] with vrefIn := some 5 } 0x9100).map
      (fun t => (t.status, t.cb, t.vref, t.session)) =
        some (some .deviceNotReady, 0x42, some 5, .ready) := by decide +kernel

/-- V-WR1, V-WR4, V-WR12. -/
theorem test_writeRaw :
    (issued (ready 0x30 3.3 [yes]) 0xA0C8).map (fun t => (t.status, t.cb, t.dacData, t.trace)) =
      some (some .ok, 0x70, some 0xC8, [.tx 0x48 [0x70, 0xC8] true]) ∧
    (issued (ready 0x30 3.3 [no]) 0xA0C8).map (fun t => (t.status, t.cb, t.dacData)) =
      some (some .busTransferFailed, 0x70, some 0xC8) ∧
    issued State.reset 0xA080 = some { State.reset with refused := some .notInitialized } := by
  decide +kernel

/-- V-WR5, V-WR7, V-WR10. -/
theorem test_writeVoltage :
    (issued { ready 0x40 3.3 [yes] with vin := some 1.65 } 0xB000).map State.trace =
      some [.tx 0x48 [0x40, 0x80] true] ∧
    (issued { ready 0x40 3.3 [yes] with vin := some (-0.5) } 0xB000).map State.trace =
      some [.tx 0x48 [0x40, 0x00] true] ∧
    (issued (ready 0x40 3.3 []) 0xB000).map (fun t => (t.fault, t.cb, t.trace)) =
      some (some .readUnwritten, 0x40, []) := by decide +kernel

/-- V-RD1. -/
theorem test_readChannelRaw :
    (issued (ready 0x30 5 [yes, rx 0x7A 0x80 0 0 0]) 0xC100).map
        (fun t => (t.cb, t.results.byte, t.lastRaw[1], t.lastConv[1])) =
      some (0x31, some 0x80, 0x80, 128 / 51) ∧
    (issued (ready 0x30 5 [yes, rx 0x7A 0x80 0 0 0]) 0xC100).map State.trace =
      some [.tx 0x48 [0x31] true, .rx 0x48 2 (some [0x7A, 0x80])] := by decide +kernel

/-- V-SQ4, V-RD4. -/
theorem test_readChannelRaw_fails :
    (issued (ready 0x40 3.3 [no]) 0xC000).map (fun t => (t.status, t.cb, t.lastRaw, t.trace)) =
      some (some .busTransferFailed, 0x40, #v[0, 0, 0, 0], [.tx 0x48 [0x40] false]) ∧
    (issued (ready 0x40 3.3 []) 0xC400).map (fun t => (t.status, t.cb, t.trace)) =
      some (some .invalidChannel, 0x40, []) := by decide +kernel

/-- V-RD7. -/
theorem test_readChannelVoltage :
    (issued (ready 0x40 3.3 [yes, rx 0x00 0xFF 0 0 0]) 0xD200).map
        (fun t => (t.cb, t.results.volt, t.results.byte, t.lastRaw[2], t.lastConv[2])) =
      some (0x42, some 3.3, none, 255, 3.3) := by decide +kernel

/-- V-RD9. -/
theorem test_readAllRaw :
    (issued (ready 0x42 3.3 [yes, rx 0xFF 0x10 0x20 0x30 0x40]) 0xE000).map
        (fun t => (t.cb, t.results.code, t.lastRaw, t.lastConv)) =
      some (0x42, #v[some 0x10, some 0x20, some 0x30, some 0x40], #v[0x10, 0x20, 0x30, 0x40],
        #v[88 / 425, 176 / 425, 264 / 425, 352 / 425]) := by decide +kernel

/-- V-RD10. -/
theorem test_readAllVoltage :
    (issued (ready 0x40 5 [yes, rx 0x00 0x00 0x33 0x66 0xFF]) 0xF000).map
        (fun t => (t.results.volts, t.lastRaw)) =
      some (#v[some 0, some 1, some 2, some 5], #v[0x00, 0x33, 0x66, 0xFF]) := by decide +kernel

/-! ## Host accesses -/

/-- V-HA1 to V-HA4. -/
theorem test_host_refusals :
    (hostRead State.reset 0x00 (.bytes 2)).refused = some .writeOnly ∧
    access State.reset (.write 0x03 (.bytes 1 0)) =
      .next { State.reset with refused := some .readOnly } ∧
    (hostRead State.reset 0x1E (.bytes 1)).refused = some .reservedIndex ∧
    access State.reset (.write 0x00 (.bytes 1 0x90)) =
      .next { State.reset with refused := some .widthMismatch } :=
  ⟨rfl, rfl, rfl, rfl⟩

/-- V-HA5 to V-HA7. -/
theorem test_host_reads_at_reset :
    (hostRead State.reset 0x14 .volt).fault = some .readUnwritten ∧
    (hostRead State.reset 0x03 (.bytes 1)).fault = some .readUnwritten ∧
    (hostRead State.reset 0x13 (.bytes 1)).replies = [.bytes 1 0x00] ∧
    (hostRead State.reset 0x12 (.bytes 1)).replies = [.bytes 1 0] ∧
    (hostRead State.reset 0x16 (.bytes 1)).replies = [.bytes 1 0] ∧
    (hostRead State.reset 0x1D .volt).replies = [.volt 0] :=
  ⟨rfl, rfl, rfl, rfl, rfl, rfl⟩

/-- V-HA8, its write. -/
theorem test_host_write_vin :
    access State.reset (.write 0x01 (.volt (-7))) = .next { State.reset with vin := some (-7) } := rfl

/-! ## Witnesses: encoding -/

theorem witness_DecodeOfEncode : (Instr.crEnableDac 0xFF 1).wellFormed = true := by decide

theorem witness_EncodeOfDecode :
    decode 0x2F8B = .ok (.crSetInputMode 0x8B 15) ∧ decode 0xCF00 = .ok (.readChannelRaw 15) := by
  decide

/-- A word for each disjunct, the least and the greatest illegal field of each. -/
theorem witness_IllegalWordsRefused :
    fieldOp 0x0000 = 0x0 ∧ fieldOp 0x0FFF = 0x0 ∧
    (fieldOp 0x3200 = 0x3 ∧ fieldA 0x3200 &&& 0xE ≠ 0) ∧
    (fieldOp 0x3FFF = 0x3 ∧ fieldA 0x3FFF &&& 0xE ≠ 0) ∧
    (fieldOp 0x4140 = 0x4 ∧ fieldA 0x4140 ≠ 0) ∧ (fieldOp 0xAFFF = 0xA ∧ fieldA 0xAFFF ≠ 0) ∧
    (fieldOp 0xC001 = 0xC ∧ fieldB 0xC001 ≠ 0) ∧ (fieldOp 0xD0FF = 0xD ∧ fieldB 0xD0FF ≠ 0) ∧
    (fieldOp 0x8001 = 0x8 ∧ ¬ (fieldA 0x8001 = 0 ∧ fieldB 0x8001 = 0)) ∧
    (fieldOp 0xF100 = 0xF ∧ ¬ (fieldA 0xF100 = 0 ∧ fieldB 0xF100 = 0)) := by decide

theorem witness_IgnoredBitsChangeNothing :
    (3 : Nibble).extractLsb' 0 2 = (15 : Nibble).extractLsb' 0 2 ∧
    (0x01 : Byte).getLsbD 0 = (0xFF : Byte).getLsbD 0 := by decide

theorem witness_AssemblerMatchesEncoder :
    (Instr.crEnableDac 0 1).wellFormed = true ∧ 255 < 256 ∧ 15 < 16 := by decide

/-! ## Witnesses: control-byte functions and control-register commands -/

theorem witness_SetChannelFunction :
    (3 : Nibble) < 4 ∧ (3 : Nibble) ≤ 3 ∧ (0 : Nibble) ≤ 3 ∧ 2 ≤ 2 := by decide

theorem witness_ControlByteFunctions :
    (3 ≠ 4 ∧ 3 ≠ 5) ∧ (6 ≠ 4 ∧ 6 ≠ 5) ∧ 5 ≠ 6 ∧ 7 ≠ 6 ∧ 1 ≠ 2 ∧ 3 ≠ 2 := by decide

theorem witness_InitComposesControlByte :
    (0x70 : Byte) &&& 0x8F = 0 ∧ (0x00 : Byte) &&& 0x8F = 0 := by decide

theorem witness_CrSetChannelRule : (3 : Nibble) ≤ 3 ∧ (3 : Nibble) < 4 := by decide

theorem witness_CrEnableDacRule : (1 : Nibble) ≤ 1 ∧ (1 : Nibble) < 2 := by decide

/-! ## Witnesses: converter -/

theorem witness_VoltageToCodeFunction : (0 : Volt) < 3.3 := by decide +kernel

/-- A clause each: at and above the reference, at and below 0, and both ends of the range. -/
theorem witness_ConverterClamps :
    (0 : Volt) < 3.3 ∧ (3.3 : Volt) ≤ 3.3 ∧ (3.3 : Volt) < 5 ∧ (0 : Volt) ≤ 0 ∧ (-1 : Volt) < 0 ∧
    (0 : Volt) ≤ 3.3 := by decide +kernel

/-- The ends of the range, a tie, and a point where the two modes differ. -/
theorem witness_RoundingModes :
    ((0 : Volt) ≤ 0 ∧ (0 : Volt) ≤ 255) ∧ ((0 : Volt) ≤ 255 ∧ (255 : Volt) ≤ 255) ∧
    (253 / 2 : Volt) = ((126 : Int) : Volt) + 1 / 2 ∧
    round8 .halfUp (253 / 2) ≠ round8 .halfEven (253 / 2) := by decide +kernel

theorem witness_CodeRoundTrip : (0 : Volt) < 1 / 1000 := by decide +kernel

theorem witness_VoltageRoundTrip :
    (0 : Volt) < 3.3 ∧ (0 : Volt) ≤ 0 ∧ (0 : Volt) ≤ 3.3 ∧ (3.3 : Volt) ≤ 3.3 := by decide +kernel

theorem witness_ConverterIsMonotone :
    (0 : Volt) < 3.3 ∧ (254 : Byte) < 255 ∧ (1 : Volt) ≤ 1 ∧ (1 : Volt) ≤ 2 := by decide +kernel

/-- A clause each: a good reference, none, 0 and below 0. -/
theorem witness_ConvC2vRule :
    ((withRef 5 []).vrefIn = some 5 ∧ (0 : Volt) < 5) ∧ State.reset.vrefIn = none ∧
    ((withRef 0 []).vrefIn = some 0 ∧ (0 : Volt) ≤ 0) ∧
    ((withRef (-1) []).vrefIn = some (-1) ∧ (-1 : Volt) ≤ 0) := by decide +kernel

theorem witness_ConvV2cRule :
    ((withVolts 1 5).vin = some 1 ∧ (withVolts 1 5).vrefIn = some 5 ∧ (0 : Volt) < 5) ∧
    State.reset.vin = none ∧
    ({ State.reset with vin := some 1 } : State).vrefIn = none ∧
    ((withVolts 1 0).vin = some 1 ∧ (withVolts 1 0).vrefIn = some 0 ∧ (0 : Volt) ≤ 0) := by
  decide +kernel

/-! ## Witnesses: session commands -/

/-- A clause each: no reference, a reference of 0, not ready, a failed transmit, a good end. -/
theorem witness_InitRule :
    State.reset.vrefIn = none ∧
    ((withRef 0 []).vrefIn = some 0 ∧ (0 : Volt) ≤ 0) ∧
    ((withRef 5 [no]).vrefIn = some 5 ∧ (0 : Volt) < 5 ∧
      (withRef 5 [no]).answerAt 0 = no ∧ (no.map PortAnswer.ok) = some false) ∧
    ((withRef 5 [yes, no]).answerAt 0 = yes ∧ (withRef 5 [yes, no]).answerAt 1 = no ∧
      (yes.map PortAnswer.ok) = some true) ∧
    ((withRef 5 [yes, yes]).answerAt 0 = yes ∧ (withRef 5 [yes, yes]).answerAt 1 = yes) := by
  decide +kernel

theorem witness_WriteRawRule :
    ((ready 0x40 5 [yes]).session = .ready ∧ (ready 0x40 5 [yes]).answerAt 0 = yes) ∧
    ((ready 0x40 5 [no]).session = .ready ∧ (ready 0x40 5 [no]).answerAt 0 = no) := by
  decide +kernel

/-- A state in Ready with VIN. -/
def readyVin (vref : Option Volt) : State :=
  { ready 0x40 5 [yes] with vin := some 1, vref := vref }

theorem witness_WriteVoltageRule :
    ((readyVin (some 5)).session = .ready ∧ (readyVin (some 5)).vin = some 1 ∧
      (readyVin (some 5)).vref = some 5 ∧ (0 : Volt) < 5 ∧
      (readyVin (some 5)).answerAt 0 = yes) ∧
    ((ready 0x40 5 []).session = .ready ∧ (ready 0x40 5 []).vin = none) ∧
    ((readyVin none).session = .ready ∧ (readyVin none).vin = some 1 ∧
      (readyVin none).vref = none) ∧
    ((readyVin (some 0)).vref = some 0 ∧ (0 : Volt) ≤ 0) := by decide +kernel

theorem witness_ReadChannelFailures :
    (ready 0x40 5 [yes, no]).session = .ready ∧ (3 : Nibble) < 4 ∧ (3 : Nibble) ≤ 3 ∧
    (ready 0x40 5 [no]).answerAt 0 = no ∧
    ((ready 0x40 5 [yes, no]).answerAt 0 = yes ∧ (ready 0x40 5 [yes, no]).answerAt 1 = no) := by
  decide +kernel

theorem witness_ReadChannelRawCompletes :
    (ready 0x40 5 [yes, rx 0xFF 1 2 3 4]).session = .ready ∧
    (ready 0x40 5 [yes, rx 0xFF 1 2 3 4]).vref = some 5 ∧ (0 : Volt) < 5 ∧
    (ready 0x40 5 [yes, rx 0xFF 1 2 3 4]).answerAt 0 = some ⟨true, #v[0, 0, 0, 0, 0]⟩ ∧
    (ready 0x40 5 [yes, rx 0xFF 1 2 3 4]).answerAt 1 = some ⟨true, #v[0xFF, 1, 2, 3, 4]⟩ := by
  decide +kernel

theorem witness_ReadChannelVoltageCompletes :
    (ready 0x40 5 [yes, yes]).session = .ready ∧ (ready 0x40 5 [yes, yes]).vref = some 5 ∧
    (0 : Volt) < 5 ∧ (ready 0x40 5 [yes, yes]).answerAt 0 = yes ∧
    (ready 0x40 5 [yes, yes]).answerAt 1 = yes := by decide +kernel

theorem witness_ReadAllFailures :
    (ready 0x44 5 [yes, no]).session = .ready ∧ (ready 0x44 5 [no]).answerAt 0 = no ∧
    (ready 0x44 5 [yes, no]).answerAt 0 = yes ∧ (ready 0x44 5 [yes, no]).answerAt 1 = no := by
  decide +kernel

theorem witness_ReadAllRawCompletes :
    (ready 0x44 5 [yes, rx 0xFF 1 2 3 4]).session = .ready ∧
    (ready 0x44 5 [yes, rx 0xFF 1 2 3 4]).vref = some 5 ∧ (0 : Volt) < 5 ∧
    (ready 0x44 5 [yes, rx 0xFF 1 2 3 4]).answerAt 0 = some ⟨true, #v[0, 0, 0, 0, 0]⟩ ∧
    (ready 0x44 5 [yes, rx 0xFF 1 2 3 4]).answerAt 1 = some ⟨true, #v[0xFF, 1, 2, 3, 4]⟩ := by
  decide +kernel

theorem witness_ReadAllVoltageCompletes :
    (ready 0x42 5 [yes, yes]).session = .ready ∧ (ready 0x42 5 [yes, yes]).vref = some 5 ∧
    (0 : Volt) < 5 ∧ (ready 0x42 5 [yes, yes]).answerAt 0 = yes ∧
    (ready 0x42 5 [yes, yes]).answerAt 1 = yes := by decide +kernel

theorem witness_InvalidChannelBeforeBus :
    (3 : Nibble) < 4 ∧ (3 : Nibble) < 15 ∧ (ready 0x40 5 []).session = .ready := by decide +kernel

theorem witness_NeverAnsweringPortHangs :
    ((withRef 5 [none]).vrefIn = some 5 ∧ (0 : Volt) < 5 ∧ (withRef 5 [none]).answerAt 0 = none) ∧
    ((withRef 5 [yes, none]).answerAt 0 = yes ∧ (withRef 5 [yes, none]).answerAt 1 = none) ∧
    ((ready 0x40 5 [none]).session = .ready ∧ (ready 0x40 5 [none]).answerAt 0 = none) ∧
    ((ready 0x40 5 [yes, none]).answerAt 0 = yes ∧ (ready 0x40 5 [yes, none]).answerAt 1 = none ∧
      (3 : Nibble) ≤ 3) ∧
    ({ ready 0x40 5 [none] with vin := some 1 }.vin = some 1 ∧ (ready 0x40 5 [none]).vref = some 5) ∧
    (({ ready 0x40 5 [] with seq := .rx } : State).seq ≠ .idle ∧
      (ready 0x40 5 []).fault = none ∧ (ready 0x40 5 []).refused = none) := by decide +kernel

theorem witness_SessionGate :
    ((Instr.writeRaw 128).mnemonic.cls = .session ∧ (Instr.writeRaw 128).mnemonic ≠ .init ∧
      State.reset.session = .uninitialized) ∧
    (Instr.init 1 0).mnemonic = .init ∧ Instr.convV2c.mnemonic.cls = .pure ∧
    State.reset.refused = none ∧ (∃ t, exec (.crSetAi 0) State.reset = .next t) :=
  ⟨by decide, rfl, rfl, rfl, _, rfl⟩

/-! ## Witnesses: the whole machine -/

/-- The state with the host's next access a write of CMD. -/
def nextCommand (s : State) (w : Word) : State := { s with host := [issueAccess w] }

theorem witness_StepRunsDecodedCommand :
    ((nextCommand State.reset 0x4000).fault = none ∧
      (nextCommand State.reset 0x4000).refused = none ∧
      (nextCommand State.reset 0x4000).seq = .idle ∧
      (nextCommand State.reset 0x4000).host = [.write 0x00 (.bytes 2 (0x4000 : Word).toNat)] ∧
      decode 0x4000 = .ok (.crSetAi 0)) ∧
    decodeTableWord 16 0x4000 = some (.crSetAi 0) := by decide +kernel

theorem witness_MarkedRunStops :
    (State.reset.faultAt .readUnwritten).fault = some .readUnwritten ∧
    ((State.reset.refuse .notInitialized).fault = none ∧
      (State.reset.refuse .notInitialized).refused = some .notInitialized) ∧
    (State.reset.fault = none ∧ State.reset.refused = none ∧ State.reset.seq = .idle ∧
      State.reset.host = []) := by decide

theorem witness_StepTakesOneAccess :
    ∃ t, step (nextCommand State.reset 0x4000) = .next t ∧ t.status = some .ok :=
  ⟨_, rfl, rfl⟩

theorem witness_StatusEncoding :
    (State.reset.setStatus .invalidChannel).status = some .invalidChannel := rfl

theorem witness_HostRegisterMap : (0x1E : Byte) ≤ 0x1E ∧ (0x1E : Byte) ≤ 0xFF := by decide

/-- A clause each: the first and the last reserved index, a wrong width for a read and for a write, a
read-only register, a register with a value, and one that holds none. -/
theorem witness_HostAccessChecks :
    (Reg.atIndex 0x1E = none ∧ Reg.atIndex 0xFF = none) ∧
    (Reg.atIndex 0x1D = some (.lastConv 3) ∧ Width.bytes 1 ≠ (Reg.lastConv 3).width) ∧
    (Reg.atIndex 0x00 = some .cmd ∧ (HostValue.bytes 1 0x90).width ≠ Reg.cmd.width) ∧
    (Reg.atIndex 0x03 = some .status ∧ (HostValue.bytes 1 0).width = Reg.status.width ∧
      Reg.status.access = .readOnly) ∧
    (Reg.atIndex 0x13 = some .cb ∧ Reg.cb ≠ .cmd ∧ Reg.cb.value State.reset = some (.bytes 1 0)) ∧
    (Reg.atIndex 0x14 = some .vref ∧ Reg.vref ≠ .cmd ∧ Reg.vref.value State.reset = none) :=
  ⟨⟨rfl, rfl⟩, ⟨rfl, by decide⟩, ⟨rfl, by decide⟩, ⟨rfl, rfl, rfl⟩, ⟨rfl, by decide, rfl⟩,
    rfl, by decide, rfl⟩

theorem witness_CommandsKeepHostOperands :
    ∃ t, exec (.writeRaw 0x12) { ready 0x40 3.3 [yes] with vin := some 1 } = .next t ∧
      t.status = some .ok :=
  ⟨_, rfl, rfl⟩

theorem witness_PureCommandsTouchNoSession :
    (Instr.crSetAi 0).mnemonic.cls = .pure ∧
    (∃ t, exec (.crSetAi 0) State.reset = .next t ∧ t.refused = none ∧ t.fault = none) ∧
    (∃ t, exec (.crSetAi 0) (ready 0x40 5 []) = .next t) ∧
    (ready 0x40 5 []).vin = State.reset.vin ∧ (ready 0x40 5 []).vrefIn = State.reset.vrefIn ∧
    (ready 0x40 5 []).params = State.reset.params ∧ (ready 0x40 5 []).refused = none ∧
    (ready 0x40 5 []).fault = none :=
  ⟨rfl, ⟨_, rfl, rfl, rfl⟩, ⟨_, rfl⟩, rfl, rfl, rfl, rfl, rfl⟩

/-- A read that changes the entry of channel 3. -/
theorem witness_CachesChangeOnlyOnGoodReads :
    ∃ t, exec (.readChannelRaw 3) (ready 0x40 5 [yes, rx 0 9 0 0 0]) = .next t ∧
      t.lastRaw[3] = 9 :=
  ⟨_, rfl, by decide +kernel⟩

/-- An INIT that makes the session Ready, and a command in Ready. -/
theorem witness_SessionTransitions :
    (∃ t, exec (.init 1 0) (withRef 3.3 [yes, yes]) = .next t ∧
      (withRef 3.3 [yes, yes]).session = .uninitialized ∧ t.session = .ready) ∧
    (∃ t, exec (.crSetAi 0) (ready 0x40 5 []) = .next t ∧ (ready 0x40 5 []).session = .ready) :=
  ⟨⟨_, rfl, by decide +kernel, by decide +kernel⟩, _, rfl, rfl⟩

/-- A command that keeps dac_enable set, and an auto-increment that was set already. -/
theorem witness_ControlBytePersists :
    (∃ t, exec (.writeRaw 0) (ready 0x44 5 [yes]) = .next t ∧
      (fnDecode (ready 0x44 5 [yes]).cb).dacEnable = true ∧
      (fnDecode t.cb).autoIncrement = true) ∧
    (Instr.writeRaw 0).mnemonic ≠ .init ∧ (Instr.writeRaw 0).mnemonic ≠ .readChannelRaw ∧
    (Instr.writeRaw 0).mnemonic ≠ .readChannelVoltage :=
  ⟨⟨_, rfl, by decide +kernel, by decide +kernel⟩, by decide, by decide, by decide⟩

theorem witness_CommandBusEvents :
    ∃ t, exec .readAllRaw (ready 0x44 5 [yes, yes]) = .next t ∧ t.status = some .ok :=
  ⟨_, rfl, by decide +kernel⟩

theorem witness_StatusPerCommand :
    ∃ t, exec (.readChannelRaw 4) (ready 0x40 5 []) = .next t ∧ t.status = some .invalidChannel :=
  ⟨_, rfl, by decide +kernel⟩

theorem witness_ResultsOnlyFromTheirCommand :
    ∃ t, exec (.crDecode 0x76) State.reset = .next t ∧
      (Instr.crDecode 0x76).mnemonic.cls = .pure ∧ t.results ≠ Results.cleared ∧
      t.results.ch ≠ none :=
  ⟨_, rfl, rfl, by decide +kernel, by decide +kernel⟩

/-- Two machines whose receive to come differs in its stale byte alone (V-SQ1, V-SQ2). -/
theorem witness_StaleByteNeverMatters :
    StaleTwins (ready 0x40 3.3 [yes, rx 0x00 0x55 0 0 0]) (ready 0x40 3.3 [yes, rx 0xAA 0x55 0 0 0]) :=
  ⟨.cons ⟨rfl, rfl⟩ (.cons ⟨rfl, rfl⟩ .nil), .nil, rfl⟩

/-- A state in Ready whose host's next command reads a channel. -/
def readNext : State :=
  { ready 0x40 3.3 [yes, yes] with
    trace := [.probe 0x48 true, .tx 0x48 [0x40] true], host := [issueAccess 0xC000] }

theorem witness_StepKeepsInvariant :
    BlockInv readNext ∧ ∃ t, step readNext = .next t ∧ t.status = some .ok :=
  ⟨{ cb_unused := by decide
     before_init := nofun
     vref_pos := fun r h => by
       obtain rfl := Option.some.inj h
       norm_num
     ready_vref := fun _ => rfl
     cache_converted := fun c => ⟨1, one_pos, by
       revert c
       decide +kernel⟩
     trace_legal := by decide
     reads_follow := by decide
     results_ok := .inl rfl
     seq_waits := by decide
     one_mark := .inl rfl }, _, rfl, by decide +kernel⟩

/-- The state `n` steps on. -/
def afterSteps : Nat → State → Option State
  | 0, s => some s
  | n + 1, s =>
    match step s with
    | .next t => afterSteps n t
    | .fault _ => none
    | .refused _ => none

theorem reachable_afterSteps {n : Nat} {s t : State} (hs : Reachable s)
    (h : afterSteps n s = some t) : Reachable t := by
  induction n generalizing s with
  | zero => exact Option.some.inj h ▸ hs
  | succ n ih =>
    unfold afterSteps at h
    split at h
    · exact ih (.step hs ‹_›) h
    · cases h
    · cases h

/-- The first two lines of P1, loaded with their port answers. -/
def p1Start : State :=
  State.reset.load Config.defaults 0 [yes, yes] [.write 0x02 (.volt 3.3), issueAccess 0x9001]

/-- A reachable state in Uninitialized, and one in Ready. -/
theorem witness_ReachableStates :
    (Reachable p1Start ∧ p1Start.session = .uninitialized ∧ p1Start.refused = none ∧
      p1Start.fault = none) ∧
    ∃ t, Reachable t ∧ t.session = .ready ∧ t.refused = none ∧ t.fault = none ∧ t.cb = 0x40 := by
  refine ⟨⟨.start _ _ _ _, rfl, rfl, rfl⟩, ?_⟩
  have h : (afterSteps 2 p1Start).any (fun t => t.session == .ready && t.refused == none &&
      t.fault == none && t.cb == 0x40) = true := by decide +kernel
  obtain ⟨t, ht, hp⟩ := Option.any_eq_true _ _ |>.mp h
  simp only [Bool.and_eq_true, beq_iff_eq] at hp
  exact ⟨t, reachable_afterSteps (.start _ _ _ _) ht, hp.1.1.1, hp.1.1.2, hp.1.2, hp.2⟩

theorem witness_InstancesShareNothing :
    ownPorts (newInstances 2) ∧
    ∃ ts, stepInstance [State.reset, { nextCommand State.reset 0x4000 with portId := 1 }] 1
      (by decide) = .next ts ∧ 0 ≠ 1 :=
  ⟨by decide, _, rfl, by decide⟩

end Sys2Proof.Tests
end

section
/-! The caches and the result registers over one command (spec/10_state.md R39, R42). -/

namespace Sys2Proof.Machine

variable {i : Instr} {m : Mnemonic} {c : Channel} {r : Results} {s t : State}

/-! The caches. -/

/-- Channel `c` holds the cache entry it held before. -/
def CacheKept (c : Channel) (s t : State) : Prop :=
  t.lastRaw[c] = s.lastRaw[c] ∧ t.lastConv[c] = s.lastConv[c]

/-- The command ended OK, and the cached voltage of channel `c` is its code's conversion at VREF
(R38). -/
def CacheRead (c : Channel) (s t : State) : Prop :=
  t.status = some .ok ∧ t.seq = .idle ∧
    ∃ r, t.vref = some r ∧ s.vref = some r ∧ t.lastConv[c] = codeToVoltage t.lastRaw[c] r

/-- A good end of a command whose entry of channel `c` agrees with its code (R89). -/
theorem CacheRead.finishWith {v : Volt} (ht : t.vref = some v) (hs : s.vref = some v)
    (hc : t.lastConv[c] = codeToVoltage t.lastRaw[c] v) : CacheRead c s (t.finishWith r) :=
  ⟨rfl, rfl, v, ht, hs, hc⟩

/-- The commands that read channel `c`. -/
def ReadsChannel (i : Instr) (c : Channel) : Prop :=
  i = .readAllRaw ∨ i = .readAllVoltage ∨ i = .readChannelRaw (BitVec.ofNat 4 c.val) ∨
    i = .readChannelVoltage (BitVec.ofNat 4 c.val)

/-- What a command may do to the cache entry of channel `c` (R39). -/
def CacheRule (i : Instr) (c : Channel) (s t : State) : Prop :=
  CacheKept c s t ∨ (s.session = .ready ∧ ReadsChannel i c ∧ CacheRead c s t)

theorem CacheRule.kept (h : CacheKept c s t) : CacheRule i c s t := .inl h

/-- A channel argument that passed the range check is the number of the channel it names (R97). -/
theorem eq_ofNat_channelArg {b cb : Byte} {a : Nibble} (h : fnSetChannel b a = .ok cb) :
    a = BitVec.ofNat 4 (channelArg a).val := by
  have ha : ¬ 3 < a := fun ha => nomatch (fnSetChannel_invalid ha b).symm.trans h
  clear h
  revert a
  decide

/-- A commit to another channel leaves the entry of channel `c` (R152). -/
theorem commit_other {d : Channel} (hd : d ≠ c) (s : State) (v : Volt) (code : Byte) :
    CacheKept c s (commit s v d code) := by
  have hv : d.val ≠ c.val := Fin.val_ne_of_ne hd
  constructor <;> simp [commit, hv]

/-- A commit leaves its channel's code and voltage in agreement (R38, R152). -/
theorem commit_same (s : State) (v : Volt) (c : Channel) (code : Byte) :
    (commit s v c code).lastConv[c] = codeToVoltage (commit s v c code).lastRaw[c] v := by
  simp [commit]

/-- An entry in agreement with its code stays so over every commit at the same reference. -/
theorem commit_keeps_converted {v : Volt} (h : s.lastConv[c] = codeToVoltage s.lastRaw[c] v)
    (d : Channel) (code : Byte) :
    (commit s v d code).lastConv[c] = codeToVoltage (commit s v d code).lastRaw[c] v := by
  by_cases hd : d = c
  · rw [hd, commit_same]
  · obtain ⟨hraw, hconv⟩ := commit_other hd s v code
    rw [hraw, hconv, h]

theorem commitAll_vref (s : State) (v : Volt) (codes : Vector Byte 4) :
    (commitAll s v codes).vref = s.vref := rfl

/-- The commit of four readings converts every entry (R38, R155). -/
theorem commitAll_converted (s : State) (v : Volt) (codes : Vector Byte 4) (c : Channel) :
    (commitAll s v codes).lastConv[c] = codeToVoltage (commitAll s v codes).lastRaw[c] v :=
  match c with
  | 0 => commit_keeps_converted (commit_keeps_converted (commit_keeps_converted
      (commit_same ..) ..) ..) ..
  | 1 => commit_keeps_converted (commit_keeps_converted (commit_same ..) ..) ..
  | 2 => commit_keeps_converted (commit_same ..) ..
  | 3 => commit_same ..

/-- The READ_CHANNEL path keeps every cache entry, or reads the channel it names (R39, R153). -/
theorem readChannel_cache (s : State) (a : Nibble) (results : Byte → Volt → Results)
    (c : Channel) :
    CacheKept c s (readChannel s a results) ∨
      (a = BitVec.ofNat 4 c.val ∧ CacheRead c s (readChannel s a results)) := by
  refine readChannel_elim (P := fun t => CacheKept c s t ∨ (a = _ ∧ CacheRead c s t))
    (fun _ => .inl ⟨rfl, rfl⟩) (fun _ _ _ => .inl ⟨rfl, rfl⟩) (fun _ _ => .inl ⟨rfl, rfl⟩)
    (fun _ _ _ => .inl ⟨rfl, rfl⟩) (fun _ _ => .inl ⟨rfl, rfl⟩) (fun _ _ _ _ => .inl ⟨rfl, rfl⟩)
    (fun _ _ _ _ _ _ => .inl ⟨rfl, rfl⟩) fun cb p v hcb hv _ _ => ?_
  by_cases hc : channelArg a = c
  · obtain rfl := hc
    exact .inr ⟨eq_ofNat_channelArg hcb, .finishWith hv hv (commit_same ..)⟩
  · exact .inl (commit_other hc ..)

/-- The READ_ALL path keeps every cache entry, or reads every channel (R39, R155). -/
theorem readAll_cache (s : State) (results : Vector Byte 4 → Volt → Results) (c : Channel) :
    CacheKept c s (readAll s results) ∨ CacheRead c s (readAll s results) :=
  readAll_elim (P := fun t => CacheKept c s t ∨ CacheRead c s t)
    (fun _ => .inl ⟨rfl, rfl⟩) (.inl ⟨rfl, rfl⟩) (fun _ => .inl ⟨rfl, rfl⟩) (.inl ⟨rfl, rfl⟩)
    (fun _ _ => .inl ⟨rfl, rfl⟩) (fun _ _ _ _ => .inl ⟨rfl, rfl⟩)
    fun _ _ hv _ _ => .inr (.finishWith ((commitAll_vref ..).trans hv) hv (commitAll_converted ..))

/-- WRITE_RAW and WRITE_VOLTAGE keep the caches. -/
theorem writeDac_keeps_caches (s : State) (code : Byte) (c : Channel) :
    CacheKept c s (writeDac s code) :=
  writeDac_elim (P := CacheKept c s) (fun _ => ⟨rfl, rfl⟩) (fun _ _ _ => ⟨rfl, rfl⟩)
    fun _ _ _ => ⟨rfl, rfl⟩

/-- INIT keeps the caches. -/
theorem execInit_keeps_caches {b : Byte} {a : Nibble} (h : exec (.init b a) s = .next t)
    (c : Channel) : CacheKept c s t :=
  execInit_elim (P := CacheKept c s) h (fun _ => ⟨rfl, rfl⟩) (fun _ _ _ => ⟨rfl, rfl⟩)
    (fun _ _ _ _ => ⟨rfl, rfl⟩) (fun _ _ _ => ⟨rfl, rfl⟩) (fun _ _ _ _ => ⟨rfl, rfl⟩)
    (fun _ _ _ => ⟨rfl, rfl⟩) fun _ _ _ => ⟨rfl, rfl⟩

/-- Every command follows the cache rule (R39). -/
theorem exec_cacheRule (h : exec i s = .next t) (c : Channel) : CacheRule i c s t := by
  -- Outside a commit, every update leaves both caches, so each other end is `s` as far as they go.
  have same : CacheKept c s s := ⟨rfl, rfl⟩
  cases i with
  | crSetChannel b a =>
    exact .kept (execCrSetChannel_elim (P := CacheKept c s) h (fun _ => same) fun _ _ => same)
  | crSetInputMode b a => exact .kept (next_elim (P := CacheKept c s) h same)
  | crEnableDac b a => exact .kept (next_elim (P := CacheKept c s) h same)
  | crSetAi b => exact .kept (next_elim (P := CacheKept c s) h same)
  | crClearAi b => exact .kept (next_elim (P := CacheKept c s) h same)
  | crDecode b => exact .kept (next_elim (P := CacheKept c s) h same)
  | convC2v b =>
    exact .kept (execConvC2v_elim (P := CacheKept c s) h (fun _ => same) (fun _ _ _ => same)
      fun _ _ _ => same)
  | convV2c =>
    exact .kept (execConvV2c_elim (P := CacheKept c s) h (fun _ => same) (fun _ _ _ _ _ => same)
      fun _ _ _ _ _ => same)
  | init b a => exact .kept (execInit_keeps_caches h c)
  | writeRaw b =>
    exact .kept (execWriteRaw_elim (P := CacheKept c s) h (fun _ => same)
      fun _ => writeDac_keeps_caches s.clearResults _ c)
  | writeVoltage =>
    exact .kept (execWriteVoltage_elim (P := CacheKept c s) h (fun _ => same) (fun _ _ => same)
      (fun _ _ _ _ _ _ => same) fun _ _ _ _ _ _ => writeDac_keeps_caches s.clearResults _ c)
  | readChannelRaw a =>
    refine execReadChannelRaw_elim (P := CacheRule _ c s) h (fun _ => .kept same) fun hs => ?_
    exact (readChannel_cache s.clearResults a _ c).imp_right fun ⟨ha, hr⟩ =>
      ⟨hs, .inr (.inr (.inl (congrArg _ ha))), hr⟩
  | readChannelVoltage a =>
    refine execReadChannelVoltage_elim (P := CacheRule _ c s) h (fun _ => .kept same) fun hs => ?_
    exact (readChannel_cache s.clearResults a _ c).imp_right fun ⟨ha, hr⟩ =>
      ⟨hs, .inr (.inr (.inr (congrArg _ ha))), hr⟩
  | readAllRaw =>
    refine execReadAllRaw_elim (P := CacheRule _ c s) h (fun _ => .kept same) fun hs => ?_
    exact (readAll_cache s.clearResults _ c).imp_right fun hr => ⟨hs, .inl rfl, hr⟩
  | readAllVoltage =>
    refine execReadAllVoltage_elim (P := CacheRule _ c s) h (fun _ => .kept same) fun hs => ?_
    exact (readAll_cache s.clearResults _ c).imp_right fun hr => ⟨hs, .inr (.inl rfl), hr⟩

/-- Settles O49: every command follows the cache rule, command by command; a read reaches its commit
only after a good receive at a reference above 0. -/
theorem cachesChangeOnlyOnGoodReads : Obligations.CachesChangeOnlyOnGoodReads := by
  unfold Obligations.CachesChangeOnlyOnGoodReads
  intro i s t c h
  obtain hkept | ⟨hready, hreads, hok, hidle, hconv⟩ := exec_cacheRule h c
  · exact .inl hkept
  · exact .inr ⟨hok, hidle, hready, hreads, hconv⟩

/-! The result registers. -/

/-- The commands that write RES_BYTE (R42). -/
def byteWriters : List Mnemonic :=
  [.crSetChannel, .crSetInputMode, .crEnableDac, .crSetAi, .crClearAi, .convV2c, .readChannelRaw]

/-- The commands that write RES_VOLT (R42). -/
def voltWriters : List Mnemonic := [.convC2v, .readChannelVoltage]

/-- What the result registers may hold after the command `m` (the table of R42). -/
inductive Produces : Mnemonic → Results → Prop where
  | nothing {m : Mnemonic} : Produces m Results.cleared
  | byte {m : Mnemonic} (hm : m ∈ byteWriters) (b : Byte) : Produces m (.ofByte b)
  | volt {m : Mnemonic} (hm : m ∈ voltWriters) (v : Volt) : Produces m (.ofVolt v)
  | fields (f : CbFields) : Produces .crDecode (.ofFields f)
  | codes (bs : Vector Byte 4) : Produces .readAllRaw (.ofCodes bs)
  | volts (vs : Vector Volt 4) : Produces .readAllVoltage (.ofVolts vs)

theorem Results.cleared_code (c : Channel) : Results.cleared.code[c] = none := by
  revert c; decide

theorem Results.cleared_volts (c : Channel) : Results.cleared.volts[c] = none := by
  revert c; decide

theorem Produces.byte_writer (h : Produces m r) (hr : r.byte ≠ none) : m ∈ byteWriters := by
  cases h with
  | byte hm b => exact hm
  | _ => exact absurd rfl hr

theorem Produces.volt_writer (h : Produces m r) (hr : r.volt ≠ none) : m ∈ voltWriters := by
  cases h with
  | volt hm v => exact hm
  | _ => exact absurd rfl hr

theorem Produces.fields_writer (h : Produces m r)
    (hr : r.ch ≠ none ∨ r.ai ≠ none ∨ r.mode ≠ none ∨ r.dac ≠ none) : m = .crDecode := by
  cases h with
  | fields f => rfl
  | _ => obtain hr | hr | hr | hr := hr <;> exact absurd rfl hr

theorem Produces.code_writer (h : Produces m r) (c : Channel) (hr : r.code[c] ≠ none) :
    m = .readAllRaw := by
  cases h with
  | codes bs => rfl
  | _ => exact absurd (Results.cleared_code c) hr

theorem Produces.volts_writer (h : Produces m r) (c : Channel) (hr : r.volts[c] ≠ none) :
    m = .readAllVoltage := by
  cases h with
  | volts vs => rfl
  | _ => exact absurd (Results.cleared_volts c) hr

/-- What the admitted command `m` leaves in the result registers: only its own results, and those
only where it ended OK (R42, R91). -/
def ResultsRule (m : Mnemonic) (t : State) : Prop :=
  Produces m t.results ∧ (t.results ≠ Results.cleared → t.status = some .ok)

theorem ResultsRule.cleared (h : t.results = Results.cleared) : ResultsRule m t :=
  ⟨h ▸ .nothing, absurd h⟩

theorem ResultsRule.good (ok : t.status = some .ok) (h : Produces m t.results) :
    ResultsRule m t :=
  ⟨h, fun _ => ok⟩

/-- The READ_CHANNEL path, after the results were cleared. -/
theorem readChannel_resultsRule (hs : s.results = Results.cleared) (a : Nibble)
    {results : Byte → Volt → Results} (h : ∀ code v, Produces m (results code v)) :
    ResultsRule m (readChannel s a results) :=
  readChannel_elim (P := ResultsRule m) (fun _ => .cleared hs) (fun _ _ _ => .cleared hs)
    (fun _ _ => .cleared hs) (fun _ _ _ => .cleared hs) (fun _ _ => .cleared hs)
    (fun _ _ _ _ => .cleared hs) (fun _ _ _ _ _ _ => .cleared hs)
    fun _ _ _ _ _ _ _ => .good rfl (h ..)

/-- The READ_ALL path, after the results were cleared. -/
theorem readAll_resultsRule (hs : s.results = Results.cleared)
    {results : Vector Byte 4 → Volt → Results} (h : ∀ codes v, Produces m (results codes v)) :
    ResultsRule m (readAll s results) :=
  readAll_elim (P := ResultsRule m) (fun _ => .cleared hs) (.cleared hs) (fun _ => .cleared hs)
    (.cleared hs) (fun _ _ => .cleared hs) (fun _ _ _ _ => .cleared hs)
    fun _ _ _ _ _ => .good rfl (h ..)

/-- WRITE_RAW and WRITE_VOLTAGE produce no result. -/
theorem writeDac_resultsRule (hs : s.results = Results.cleared) (code : Byte) :
    ResultsRule m (writeDac s code) :=
  writeDac_elim (P := ResultsRule m) (fun _ => .cleared hs) (fun _ _ _ => .cleared hs)
    fun _ _ _ => .cleared hs

/-- INIT produces no result. -/
theorem execInit_resultsRule {b : Byte} {a : Nibble} (h : exec (.init b a) s = .next t) :
    ResultsRule m t :=
  execInit_elim (P := ResultsRule m) h (fun _ => .cleared rfl) (fun _ _ _ => .cleared rfl)
    (fun _ _ _ _ => .cleared rfl) (fun _ _ _ => .cleared rfl) (fun _ _ _ _ => .cleared rfl)
    (fun _ _ _ => .cleared rfl) fun _ _ _ => .cleared rfl

/-- An admitted session command other than INIT found SESSION Ready (R90). -/
theorem ready_of_admitted (h : s.session = .ready ∨ m.cls = .pure ∨ m = .init)
    (hcls : m.cls = .session) (hm : m ≠ .init) : s.session ≠ .uninitialized := by
  obtain hs | hp | hi := h
  · exact fun hu => nomatch hs.symm.trans hu
  · exact nomatch hcls.symm.trans hp
  · exact absurd hi hm

/-- Every admitted command follows the rule of the result registers (R42). -/
theorem exec_resultsRule (h : exec i s = .next t)
    (adm : s.session = .ready ∨ i.mnemonic.cls = .pure ∨ i.mnemonic = .init) :
    ResultsRule i.mnemonic t := by
  have gate : i.mnemonic.cls = .session → i.mnemonic ≠ .init →
      s.session = .uninitialized → ResultsRule i.mnemonic (s.refuse .notInitialized) :=
    fun hcls hi hu => absurd hu (ready_of_admitted adm hcls hi)
  cases i with
  | crSetChannel b a =>
    exact execCrSetChannel_elim (P := ResultsRule .crSetChannel) h (fun _ => .cleared rfl)
      fun _ _ => .good rfl (.byte (by decide) _)
  | crSetInputMode b a =>
    exact next_elim (P := ResultsRule .crSetInputMode) h (.good rfl (.byte (by decide) _))
  | crEnableDac b a =>
    exact next_elim (P := ResultsRule .crEnableDac) h (.good rfl (.byte (by decide) _))
  | crSetAi b => exact next_elim (P := ResultsRule .crSetAi) h (.good rfl (.byte (by decide) _))
  | crClearAi b => exact next_elim (P := ResultsRule .crClearAi) h (.good rfl (.byte (by decide) _))
  | crDecode b => exact next_elim (P := ResultsRule .crDecode) h (.good rfl (.fields _))
  | convC2v b =>
    exact execConvC2v_elim (P := ResultsRule .convC2v) h (fun _ => .cleared rfl)
      (fun _ _ _ => .cleared rfl) fun _ _ _ => .good rfl (.volt (by decide) _)
  | convV2c =>
    exact execConvV2c_elim (P := ResultsRule .convV2c) h (fun _ => .cleared rfl)
      (fun _ _ _ _ _ => .cleared rfl) fun _ _ _ _ _ => .good rfl (.byte (by decide) _)
  | init b a => exact execInit_resultsRule h
  | writeRaw b =>
    exact execWriteRaw_elim (P := ResultsRule .writeRaw) h (gate rfl nofun)
      fun _ => writeDac_resultsRule rfl _
  | writeVoltage =>
    exact execWriteVoltage_elim (P := ResultsRule .writeVoltage) h (gate rfl nofun)
      (fun _ _ => .cleared rfl) (fun _ _ _ _ _ _ => .cleared rfl)
      fun _ _ _ _ _ _ => writeDac_resultsRule rfl _
  | readChannelRaw a =>
    exact execReadChannelRaw_elim (P := ResultsRule .readChannelRaw) h (gate rfl nofun)
      fun _ => readChannel_resultsRule rfl a fun _ _ => .byte (by decide) _
  | readChannelVoltage a =>
    exact execReadChannelVoltage_elim (P := ResultsRule .readChannelVoltage) h (gate rfl nofun)
      fun _ => readChannel_resultsRule rfl a fun _ _ => .volt (by decide) _
  | readAllRaw =>
    exact execReadAllRaw_elim (P := ResultsRule .readAllRaw) h (gate rfl nofun)
      fun _ => readAll_resultsRule rfl fun _ _ => .codes _
  | readAllVoltage =>
    exact execReadAllVoltage_elim (P := ResultsRule .readAllVoltage) h (gate rfl nofun)
      fun _ => readAll_resultsRule rfl fun _ _ => .volts _

/-- Settles O54: admission clears the results, and a command sets its own only with STATUS OK. -/
theorem resultsOnlyFromTheirCommand : Obligations.ResultsOnlyFromTheirCommand := by
  unfold Obligations.ResultsOnlyFromTheirCommand
  refine ⟨rfl, fun i s t h adm => ?_⟩
  obtain ⟨hp, hok⟩ := exec_resultsRule h adm
  exact ⟨hok, hp.byte_writer, hp.volt_writer, hp.fields_writer, hp.code_writer, hp.volts_writer⟩

end Sys2Proof.Machine
end

section
/-! The host register map (spec/20_memory.md R53). -/

namespace Sys2Proof.Machine

/-- The map list and the index column agree: each register stands at its own index (R53). -/
theorem Reg.atIndex_index (r : Reg) : Reg.atIndex r.index = some r := by
  cases r with
  | resCode c | resVolts c | lastRaw c | lastConv c => revert c; decide
  | _ => rfl

/-- A register whose index is `base + k` stands `k` places after `base`, as a channel's row does in
its block of four (R53). -/
theorem Reg.atIndex_add {r : Reg} {base k : Nat} (h : r.index = BitVec.ofNat 8 (base + k)) :
    Reg.atIndex (BitVec.ofNat 8 base + BitVec.ofNat 8 k) = some r := by
  rw [← BitVec.ofNat_add, ← h, Reg.atIndex_index]

/-- The map has 30 entries, so the indices from 0x1E on are reserved (R53, R54). -/
theorem Reg.atIndex_reserved {index : Byte} (h : 0x1E ≤ index) : Reg.atIndex index = none :=
  List.getElem?_eq_none (show regMap.length ≤ index.toNat from h)

/-- A flag shows 0 or 1 (R53). -/
@[simp] theorem HostValue.ofBits_ofBool (b : Bool) :
    HostValue.ofBits (BitVec.ofBool b) = .bytes 1 b.toNat :=
  congrArg (HostValue.bytes 1) (BitVec.toNat_ofBool b)

/-- SESSION shows 1 in Ready and 0 in Uninitialized (R25). -/
@[simp] theorem HostValue.ofBits_sessionCode (x : Session) :
    HostValue.ofBits x.code = .bytes 1 (if x = .ready then 1 else 0) := by
  cases x <;> rfl

/-- A host write of CMD at its own width issues the word written (R54, R89). -/
@[simp] theorem hostWrite_cmd (s : State) (w : Word) :
    hostWrite s 0x00 (.bytes 2 w.toNat) = issue w s :=
  calc hostWrite s 0x00 (.bytes 2 w.toNat)
    _ = issue (BitVec.ofNat 16 w.toNat) s := rfl
    _ = issue w s := by rw [BitVec.ofNat_toNat, BitVec.setWidth_eq]

/-- Settles O45: the fixed rows by evaluation, the rows of a channel by their index column, and the
values register by register; only the flags and SESSION are shown otherwise than they are held. -/
theorem hostRegisterMap : Obligations.HostRegisterMap := by
  unfold Obligations.HostRegisterMap
  refine ⟨by decide, fun c => ?channelRows, fun _ => Reg.atIndex_reserved, fun s => ?values⟩
  case channelRows =>
    exact ⟨Reg.atIndex_add rfl, Reg.atIndex_add rfl, Reg.atIndex_add rfl, Reg.atIndex_add rfl,
      rfl, rfl, rfl, rfl, rfl, rfl, rfl, rfl⟩
  case values =>
    have flag (o : Option Bool) : (o.map fun b => HostValue.ofBits (BitVec.ofBool b)) =
        o.map fun b => .bytes 1 b.toNat := by simp only [HostValue.ofBits_ofBool]
    have session : Reg.session.value s = some (.bytes 1 (if s.session = .ready then 1 else 0)) :=
      congrArg some (HostValue.ofBits_sessionCode s.session)
    exact ⟨rfl, rfl, rfl, rfl, rfl, rfl, flag _, rfl, flag _, session, rfl, rfl, rfl,
      fun _ => ⟨rfl, rfl, rfl, rfl⟩, hostWrite_cmd s⟩

end Sys2Proof.Machine
end

section
/-! Decoding as a test of a word's fields (spec/30_encoding.md R76, R79 to R81). -/

namespace Sys2Proof

variable {w : Word} {r : OpcodeRow}

/-- The must-be-zero bits of field A in a word of the form (R76). -/
def Form.zeroA : Form → Nibble
  | .ab | .mb | .ch | .i => 0x0
  | .eb => 0xE
  | .b | .z => 0xF

/-- The must-be-zero bits of field B in a word of the form (R76). -/
def Form.zeroB : Form → Byte
  | .ab | .mb | .eb | .b | .i => 0x00
  | .ch | .z => 0xFF

/-- The fields A and B have no 1 in a must-be-zero bit of the form (R81). -/
def Form.Fits (f : Form) (a : Nibble) (b : Byte) : Prop := a &&& f.zeroA = 0 ∧ b &&& f.zeroB = 0

theorem nibble_and_ones (a : Nibble) : a &&& 0xF = a := BitVec.and_allOnes

theorem byte_and_ones (b : Byte) : b &&& 0xFF = b := BitVec.and_allOnes

theorem Form.fits_eb {a : Nibble} {b : Byte} : Form.eb.Fits a b ↔ a &&& 0xE = 0 :=
  and_iff_left BitVec.and_zero

theorem Form.fits_b {a : Nibble} {b : Byte} : Form.b.Fits a b ↔ a = 0 :=
  (and_iff_left BitVec.and_zero).trans (by rw [Form.zeroA, nibble_and_ones])

theorem Form.fits_ch {a : Nibble} {b : Byte} : Form.ch.Fits a b ↔ b = 0 :=
  (and_iff_right BitVec.and_zero).trans (by rw [Form.zeroB, byte_and_ones])

theorem Form.fits_z {a : Nibble} {b : Byte} : Form.z.Fits a b ↔ a = 0 ∧ b = 0 := by
  rw [Form.Fits, Form.zeroA, Form.zeroB, nibble_and_ones, byte_and_ones]

/-- A word matches the row it selects (R79). -/
theorem selectRow_eq_some (h : selectRow w = some r) :
    r ∈ opcodeTable ∧ w &&& r.mask = r.pattern := by
  unfold selectRow at h
  exact ⟨List.mem_of_find?_eq_some h, beq_iff_eq.mp (List.find?_some h :)⟩

/-- A row's mask covers OP and the must-be-zero bits of its form, and its pattern is its opcode
(R79). -/
theorem opcodeTable_columns : ∀ r ∈ opcodeTable,
    r.mask = packWord 0xF r.form.zeroA r.form.zeroB ∧
      r.pattern = packWord r.mnemonic.opcode 0 0 := by
  decide

/-- A word selects a row where OP is the row's opcode and the must-be-zero bits are 0 (R79, R81). -/
theorem and_mask_eq_pattern_iff (hr : r ∈ opcodeTable) :
    w &&& r.mask = r.pattern ↔
      fieldOp w = r.mnemonic.opcode ∧ r.form.Fits (fieldA w) (fieldB w) := by
  obtain ⟨hmask, hpattern⟩ := opcodeTable_columns r hr
  calc w &&& r.mask = r.pattern
    _ ↔ packWord (fieldOp w &&& 0xF) (fieldA w &&& r.form.zeroA) (fieldB w &&& r.form.zeroB) =
        packWord r.mnemonic.opcode 0 0 := by
      rw [hmask, hpattern, ← packWord_and, packWord_fields]
    _ ↔ fieldOp w = r.mnemonic.opcode ∧ r.form.Fits (fieldA w) (fieldB w) := by
      rw [packWord_inj, nibble_and_ones, Form.Fits]

/-- The row of a decoded word: its fields fit the row, and the command is the row's (R88). -/
theorem decode_ok_cases {i : Instr} (h : decode w = .ok i) :
    ∃ r ∈ opcodeTable, fieldOp w = r.mnemonic.opcode ∧ r.form.Fits (fieldA w) (fieldB w) ∧
      i = r.mnemonic.build (fieldA w) (fieldB w) := by
  unfold decode at h
  split at h
  case h_1 r hsel =>
    obtain ⟨hr, hmatch⟩ := selectRow_eq_some hsel
    obtain ⟨hop, hfits⟩ := (and_mask_eq_pattern_iff hr).mp hmatch
    exact ⟨r, hr, hop, hfits, (Except.ok.inj h).symm⟩
  case h_2 => cases h

/-- No row has opcode 0 (R80). -/
theorem opcode_ne_zero (m : Mnemonic) : m.opcode ≠ 0 := by
  cases m <;> decide

/-- The form of each opcode whose words have must-be-zero bits (R79). -/
theorem form_of_opcode : ∀ r ∈ opcodeTable,
    (r.mnemonic.opcode = 0x3 → r.form = .eb) ∧
    (r.mnemonic.opcode = 0x4 ∨ r.mnemonic.opcode = 0x5 ∨ r.mnemonic.opcode = 0x6 ∨
      r.mnemonic.opcode = 0x7 ∨ r.mnemonic.opcode = 0xA → r.form = .b) ∧
    (r.mnemonic.opcode = 0xC ∨ r.mnemonic.opcode = 0xD → r.form = .ch) ∧
    (r.mnemonic.opcode = 0x8 ∨ r.mnemonic.opcode = 0xB ∨ r.mnemonic.opcode = 0xE ∨
      r.mnemonic.opcode = 0xF → r.form = .z) := by
  decide

end Sys2Proof

namespace Sys2Proof.Machine

/-- An illegal word is refused (R80, R81, R89). -/
theorem issue_of_decode_error {w : Word} {e : DecodeError} (h : decode w = .error e) (s : State) :
    issue w s = .next (s.refuse .illegalCommand) := by
  simp only [issue, h]

/-- Settles O5: were the word decoded, its fields would fit the form of its row. -/
theorem illegalWordsRefused : Obligations.IllegalWordsRefused := by
  unfold Obligations.IllegalWordsRefused
  intro s w illegal
  cases hd : decode w with
  | error e => exact issue_of_decode_error hd s
  | ok i =>
    exfalso
    obtain ⟨r, hr, hop, hfits, -⟩ := decode_ok_cases hd
    obtain ⟨eb, b, ch, z⟩ := form_of_opcode r hr
    rw [hop] at illegal
    obtain h0 | ⟨h, hA⟩ | ⟨h, hA⟩ | ⟨h, hB⟩ | ⟨h, hAB⟩ := illegal
    · exact opcode_ne_zero _ h0
    · exact hA (Form.fits_eb.mp (eb h ▸ hfits))
    · exact hA (Form.fits_b.mp (b h ▸ hfits))
    · exact hB (Form.fits_ch.mp (ch h ▸ hfits))
    · exact hAB (Form.fits_z.mp (z h ▸ hfits))

end Sys2Proof.Machine
end

section
/-! The session gate (spec/30_encoding.md R90). -/

namespace Sys2Proof.Machine

variable {i : Instr} {s t : State}

/-- The gate refuses every session command but INIT while SESSION is Uninitialized (R90). -/
theorem exec_gated (hcls : i.mnemonic.cls = .session) (hi : i.mnemonic ≠ .init)
    (hu : s.session = .uninitialized) : exec i s = .next (s.refuse .notInitialized) := by
  cases i with
  | writeRaw | writeVoltage | readChannelRaw | readChannelVoltage | readAllRaw | readAllVoltage =>
    exact admitReady_uninitialized hu _
  | init => exact absurd rfl hi
  | _ => exact nomatch hcls

/-- REFUSED is as before, or set for a reference not above 0 (R117). -/
def RefusedByReference (s t : State) : Prop :=
  t.refused = s.refused ∨ t.refused = some .nonPositiveReference

/-- A pure command or INIT is refused for its reference alone (R90, R117). -/
theorem exec_refusedByReference (h : exec i s = .next t)
    (adm : i.mnemonic.cls = .pure ∨ i.mnemonic = .init) : RefusedByReference s t := by
  -- Every update but a refusal leaves REFUSED, so each other end has the mark of `s`.
  have kept : RefusedByReference s s := .inl rfl
  cases i with
  | crSetChannel b a =>
    exact execCrSetChannel_elim (P := RefusedByReference s) h (fun _ => kept) fun _ _ => kept
  | crSetInputMode | crEnableDac | crSetAi | crClearAi | crDecode =>
    exact next_elim (P := RefusedByReference s) h kept
  | convC2v b =>
    exact execConvC2v_elim (P := RefusedByReference s) h (fun _ => kept) (fun _ _ _ => .inr rfl)
      fun _ _ _ => kept
  | convV2c =>
    exact execConvV2c_elim (P := RefusedByReference s) h (fun _ => kept)
      (fun _ _ _ _ _ => .inr rfl) fun _ _ _ _ _ => kept
  | init b a =>
    exact execInit_elim (P := RefusedByReference s) h (fun _ => kept) (fun _ _ _ => .inr rfl)
      (fun _ _ _ _ => kept) (fun _ _ _ => kept) (fun _ _ _ _ => kept) (fun _ _ _ => kept)
      fun _ _ _ => kept
  | _ => obtain hp | hi := adm <;> contradiction

/-- Settles O39: the gate stands before the six commands it is for, and no other command raises
NotInitialized. -/
theorem sessionGate : Obligations.SessionGate := by
  unfold Obligations.SessionGate
  refine ⟨fun i s hcls hi hu => exec_gated hcls hi hu, fun i s t adm hs h hn => ?_⟩
  obtain hr | hr := exec_refusedByReference h adm
  · exact nomatch hn.symm.trans (hr.trans hs)
  · exact nomatch hn.symm.trans hr

end Sys2Proof.Machine
end

section
/-! A word whose fields fit a row decodes to the row's command (spec/30_encoding.md R79, R88). -/

namespace Sys2Proof

variable {w : Word} {r : OpcodeRow} {m : Mnemonic} {f : Form} {a : Nibble} {b : Byte}

theorem Form.fits_ab : Form.ab.Fits a b := ⟨BitVec.and_zero, BitVec.and_zero⟩

theorem Form.fits_mb : Form.mb.Fits a b := ⟨BitVec.and_zero, BitVec.and_zero⟩

/-- The must-be-zero bits of form EB leave the flags 0 and 1 (R76). -/
theorem Form.fits_eb_iff_le_one : Form.eb.Fits a b ↔ a ≤ 1 :=
  Form.fits_eb.trans (by revert a; decide)

/-- No two rows have one opcode (R79). -/
theorem opcodeTable_opcode_inj : ∀ r ∈ opcodeTable, ∀ r' ∈ opcodeTable,
    r.mnemonic.opcode = r'.mnemonic.opcode → r = r' := by
  decide

/-- A word selects the row of its OP where its fields fit the row's form (R79, R81). -/
theorem selectRow_of_fits (hr : r ∈ opcodeTable) (hop : fieldOp w = r.mnemonic.opcode)
    (hfits : r.form.Fits (fieldA w) (fieldB w)) : selectRow w = some r := by
  have hmatch : w &&& r.mask = r.pattern := (and_mask_eq_pattern_iff hr).mpr ⟨hop, hfits⟩
  cases hsel : selectRow w with
  | none =>
    unfold selectRow at hsel
    exact absurd (beq_iff_eq.mpr hmatch) (List.find?_eq_none.mp hsel r hr)
  | some r' =>
    obtain ⟨hr', hmatch'⟩ := selectRow_eq_some hsel
    obtain ⟨hop', -⟩ := (and_mask_eq_pattern_iff hr').mp hmatch'
    rw [opcodeTable_opcode_inj r' hr' r hr (hop'.symm.trans hop)]

/-- A mnemonic's opcode packed with fields that fit its form decodes to its command (R88). -/
theorem decode_packWord (hm : ∃ r ∈ opcodeTable, r.mnemonic = m ∧ r.form = f)
    (hfits : f.Fits a b) : decode (packWord m.opcode a b) = .ok (m.build a b) := by
  obtain ⟨r, hr, rfl, rfl⟩ := hm
  have hsel : selectRow (packWord r.mnemonic.opcode a b) = some r :=
    selectRow_of_fits hr (fieldOp_packWord ..) (by rwa [fieldA_packWord, fieldB_packWord])
  simp only [decode, hsel, fieldA_packWord, fieldB_packWord]

end Sys2Proof
end

section
/-! The control-byte functions bit by bit (spec/40_control_register.md R96 to R102). -/

namespace Sys2Proof.Machine

/-- Setting bits outside a mask leaves the bits of the mask. -/
theorem or_and_of_disjoint {y mask : Byte} (h : y &&& mask = 0) (b : Byte) :
    (b ||| y) &&& mask = b &&& mask :=
  calc (b ||| y) &&& mask
    _ = (b &&& mask) ||| (y &&& mask) := BitVec.and_or_distrib_right
    _ = b &&& mask := (congrArg (b &&& mask ||| ·) h).trans BitVec.or_zero

/-- Setting the input mode leaves every bit but bits 5 and 4 (R98). -/
theorem fnSetInputMode_keeps (b : Byte) (m : Nibble) :
    fnSetInputMode b m &&& 0xCF = b &&& 0xCF := by
  have disjoint : (m &&& 0x3).setWidth 8 <<< 4 &&& (0xCF : Byte) = 0 := by revert m; decide
  calc fnSetInputMode b m &&& 0xCF
    _ = (b &&& 0xCF) &&& 0xCF := or_and_of_disjoint disjoint (b &&& 0xCF)
    _ = b &&& 0xCF := by rw [BitVec.and_assoc, BitVec.and_self]

/-- Setting auto-increment leaves every bit but bit 2 (R100). -/
theorem fnSetAi_keeps (b : Byte) : fnSetAi b &&& 0xFB = b &&& 0xFB :=
  or_and_of_disjoint (by decide) b

/-- Bytes equal under a mask agree at its bits; no byte has a bit above 7. -/
theorem getLsbD_eq_of_and_eq {x y mask : Byte} (h : x &&& mask = y &&& mask) {j : Nat}
    (hj : j < 8 → mask.getLsbD j = true) : x.getLsbD j = y.getLsbD j := by
  by_cases h8 : j < 8
  · have hbit := congrArg (BitVec.getLsbD · j) h
    simpa only [BitVec.getLsbD_and, hj h8, Bool.and_true] using hbit
  · rw [BitVec.getLsbD_of_ge x j (not_lt.mp h8), BitVec.getLsbD_of_ge y j (not_lt.mp h8)]

/-- Settles O8, by the range check on the channel and the mask of bits 7:2. -/
theorem setChannelFunction : Obligations.SetChannelFunction := by
  unfold Obligations.SetChannelFunction
  refine fun b c => ⟨fun hc => fnSetChannel_invalid hc b, fun hc => ?_⟩
  have valid : ¬ 3 < c := BitVec.not_lt.mpr hc
  have mask : ∀ j < 8, 2 ≤ j → (0xFC : Byte).getLsbD j = true := by decide
  exact ⟨_, fnSetChannel_valid valid b, rfl, fun j hj =>
    getLsbD_eq_of_and_eq (setChannel_keeps b valid) (mask j · hj)⟩

/-- Settles O9: the formulas are the definitions, and each function keeps the bits of its mask. -/
theorem controlByteFunctions : Obligations.ControlByteFunctions := by
  unfold Obligations.ControlByteFunctions
  have modeMask : ∀ j < 8, j ≠ 4 → j ≠ 5 → (0xCF : Byte).getLsbD j = true := by decide
  have dacMask : ∀ j < 8, j ≠ 6 → (0xBF : Byte).getLsbD j = true := by decide
  have aiMask : ∀ j < 8, j ≠ 2 → (0xFB : Byte).getLsbD j = true := by decide
  refine ⟨fun b m => ⟨rfl, fun j h4 h5 => ?mode⟩, fun b => ⟨rfl, rfl⟩,
    fun b e j h6 => ?dac, fun b => ⟨rfl, rfl⟩, fun b j h2 => ⟨?setAi, ?clearAi⟩, fun b => rfl⟩
  case mode => exact getLsbD_eq_of_and_eq (fnSetInputMode_keeps b m) (modeMask j · h4 h5)
  case dac => exact getLsbD_eq_of_and_eq (fnEnableDac_keeps b e) (dacMask j · h6)
  case setAi => exact getLsbD_eq_of_and_eq (fnSetAi_keeps b) (aiMask j · h2)
  case clearAi => exact getLsbD_eq_of_and_eq (fnClearAi_keeps b).left (aiMask j · h2)

end Sys2Proof.Machine
end

section
/-! The pure CR_* commands (spec/40_control_register.md R104 to R109). -/

namespace Sys2Proof.Machine

/-- The end of a command that issued no bus event and visited only IDLE (R89). -/
theorem commandEnd_eq_finish (s : State) (st : Status) (r : Results) :
    commandEnd s st r [.idle] [] = (s.setResults r).finish st := by
  simp only [commandEnd, List.append_nil]
  rfl

/-- A pure command that only produces results ends OK with them (R89, R91). -/
theorem admitCommand_finishWith (s : State) (r : Results) :
    admitCommand s (fun t => t.finishWith r) = .next (commandEnd s .ok r [.idle] []) :=
  congrArg Host.Outcome.next (commandEnd_eq_finish s .ok r).symm

/-- A command that raises an error at once ends with its STATUS and no result (R14, R91). -/
theorem admitCommand_raise (s : State) (e : CmdError) :
    admitCommand s (fun t => t.raise e) =
      .next (commandEnd s e.status Results.cleared [.idle] []) :=
  congrArg Host.Outcome.next (commandEnd_eq_finish s e.status Results.cleared).symm

/-- Settles O13, by the range check of `fn_set_channel`. -/
theorem crSetChannelRule : Obligations.CrSetChannelRule := by
  unfold Obligations.CrSetChannelRule
  refine ⟨fun a b => decode_packWord (m := .crSetChannel) (by decide) Form.fits_ab,
    fun s b a ha => ?valid, fun s b a ha => ?invalid⟩
  case valid =>
    simp only [exec, execCrSetChannel, fnSetChannel_valid (BitVec.not_lt.mpr ha)]
    exact admitCommand_finishWith s (Results.ofByte _)
  case invalid =>
    simp only [exec, execCrSetChannel, fnSetChannel_invalid ha]
    exact admitCommand_raise s .invalidChannel

/-- Settles O14: the command ends with the byte of `fn_set_input_mode`. -/
theorem crSetInputModeRule : Obligations.CrSetInputModeRule := by
  unfold Obligations.CrSetInputModeRule
  exact ⟨fun a b => decode_packWord (m := .crSetInputMode) (by decide) Form.fits_mb,
    fun s b a => admitCommand_finishWith s (Results.ofByte (fnSetInputMode b a))⟩

/-- A CR_ENABLE_DAC word with a flag above 1 is illegal (R81). -/
theorem decode_crEnableDac_illegal {a : Nibble} (ha : 1 < a) (b : Byte) :
    ∃ e, decode (packWord 0x3 a b) = .error e := by
  cases hd : decode (packWord 0x3 a b) with
  | error e => exact ⟨e, rfl⟩
  | ok i =>
    exfalso
    obtain ⟨r, hr, hop, hfits, -⟩ := decode_ok_cases hd
    rw [fieldOp_packWord] at hop
    rw [fieldA_packWord, fieldB_packWord, (form_of_opcode r hr).left hop.symm] at hfits
    exact BitVec.not_lt.mpr (Form.fits_eb_iff_le_one.mp hfits) ha

/-- Settles O15: form EB admits the flags 0 and 1, and the command ends with the byte of
`fn_enable_dac`. -/
theorem crEnableDacRule : Obligations.CrEnableDacRule := by
  unfold Obligations.CrEnableDacRule
  exact ⟨fun a b ha => decode_packWord (m := .crEnableDac) (by decide)
      (Form.fits_eb_iff_le_one.mpr ha),
    fun a b ha => decode_crEnableDac_illegal ha b,
    fun s b => admitCommand_finishWith s (Results.ofByte (fnEnableDac b true)),
    fun s b => admitCommand_finishWith s (Results.ofByte (fnEnableDac b false))⟩

/-- Settles O16: the command ends with the byte of `fn_set_ai`. -/
theorem crSetAiRule : Obligations.CrSetAiRule := by
  unfold Obligations.CrSetAiRule
  exact ⟨fun b => decode_packWord (m := .crSetAi) (by decide) (Form.fits_b.mpr rfl),
    fun s b => admitCommand_finishWith s (Results.ofByte (fnSetAi b))⟩

/-- Settles O17: the command ends with the byte of `fn_clear_ai`. -/
theorem crClearAiRule : Obligations.CrClearAiRule := by
  unfold Obligations.CrClearAiRule
  exact ⟨fun b => decode_packWord (m := .crClearAi) (by decide) (Form.fits_b.mpr rfl),
    fun s b => admitCommand_finishWith s (Results.ofByte (fnClearAi b))⟩

/-- Settles O18: the command ends with the four fields of `fn_decode`. -/
theorem crDecodeRule : Obligations.CrDecodeRule := by
  unfold Obligations.CrDecodeRule
  exact ⟨fun b => decode_packWord (m := .crDecode) (by decide) (Form.fits_b.mpr rfl),
    fun s b => admitCommand_finishWith s (Results.ofFields (fnDecode b))⟩

end Sys2Proof.Machine
end

section
/-! Rounding to a code (spec/41_conversion.md R116). -/

namespace Sys2Proof.Machine

/-- HALF_UP goes to a nearest integer. -/
theorem roundHalfUp_nearest (x : Volt) : |(roundHalfUp x : Volt) - x| ≤ 1 / 2 := by
  obtain ⟨lower, upper⟩ := floor_bounds (x + 1 / 2)
  rw [roundHalfUp, abs_le]
  constructor <;> linarith

/-- HALF_EVEN goes to a nearest integer. -/
theorem roundHalfEven_nearest (x : Volt) : |(roundHalfEven x : Volt) - x| ≤ 1 / 2 := by
  obtain ⟨lower, upper⟩ := floor_bounds x
  rw [roundHalfEven, abs_le]
  split_ifs with below above even
  · constructor <;> linarith
  · push_cast
    constructor <;> linarith
  · constructor <;> linarith
  · push_cast
    constructor <;> linarith

/-- `round8` goes to a nearest integer (R116). -/
theorem round8_nearest (m : RoundMode) (x : Volt) : |(round8 m x : Volt) - x| ≤ 1 / 2 := by
  cases m with
  | halfUp => exact roundHalfUp_nearest x
  | halfEven => exact roundHalfEven_nearest x

/-- Away from a tie the nearest integer is the only one within 1/2, so every mode answers it. -/
theorem round8_eq_of_abs_sub_lt {n : Int} {x : Volt} (h : |(n : Volt) - x| < 1 / 2)
    (m : RoundMode) : round8 m x = n := by
  have apart : |(round8 m x : Volt) - n| < 1 :=
    calc |(round8 m x : Volt) - n|
      _ ≤ |(round8 m x : Volt) - x| + |x - n| := abs_sub_le _ _ _
      _ < 1 / 2 + 1 / 2 := add_lt_add_of_le_of_lt (round8_nearest m x) (abs_sub_comm x n ▸ h)
      _ = 1 := add_halves 1
  exact Int.sub_eq_zero.mp (Int.abs_lt_one_iff.mp (by exact_mod_cast apart))

/-- An integer rounds to itself. -/
@[simp] theorem round8_intCast (m : RoundMode) (n : Int) : round8 m (n : Volt) = n :=
  round8_eq_of_abs_sub_lt (by norm_num) m

/-- Rounding keeps the bounds 0 and 255. -/
theorem round8_mem (m : RoundMode) {x : Volt} (h0 : 0 ≤ x) (h255 : x ≤ 255) :
    0 ≤ round8 m x ∧ round8 m x ≤ 255 := by
  obtain ⟨lower, upper⟩ := abs_le.mp (round8_nearest m x)
  have above : (-1 : Volt) < round8 m x := by linarith
  have below : (round8 m x : Volt) < 256 := by linarith
  norm_cast at above below
  constructor <;> omega

/-- At a tie HALF_EVEN answers an even integer. -/
theorem roundHalfEven_even_of_tie (n : Int) : Even (roundHalfEven (n + 1 / 2)) := by
  have floor : ((n : Volt) + 1 / 2).floor = n :=
    (Int.floor_eq_iff (a := (n : Volt) + 1 / 2)).mpr (by constructor <;> linarith)
  rw [roundHalfEven, floor, add_sub_cancel_left, if_neg (lt_irrefl _), if_neg (lt_irrefl _)]
  split_ifs with even
  · exact Int.even_iff.mpr even
  · exact Int.even_add_one.mpr fun h => even (Int.even_iff.mp h)

/-- Where the two modes differ, x is a tie. -/
theorem tie_of_round8_ne {x : Volt} (h : round8 .halfUp x ≠ round8 .halfEven x) :
    ∃ n : Int, x = n + 1 / 2 := by
  have half : |(round8 .halfUp x : Volt) - x| = 1 / 2 :=
    (round8_nearest .halfUp x).antisymm
      (not_lt.mp fun near => h (round8_eq_of_abs_sub_lt near .halfEven).symm)
  obtain above | below := eq_or_eq_neg_of_abs_eq half
  · exact ⟨round8 .halfUp x - 1, by push_cast; linarith⟩
  · exact ⟨round8 .halfUp x, by linarith⟩

/-- Settles O22: both modes go to a nearest integer, and away from a tie there is only one. -/
theorem roundingModes : Obligations.RoundingModes := by
  unfold Obligations.RoundingModes
  refine ⟨rfl, fun x h0 h255 => ⟨fun m => ⟨round8_nearest m x, round8_mem m h0 h255⟩, rfl,
    fun n tie => ?_, tie_of_round8_ne⟩⟩
  rw [tie]
  exact roundHalfEven_even_of_tie n

end Sys2Proof.Machine
end

section
/-! The two conversions (spec/41_conversion.md R113 to R115). -/

namespace Sys2Proof.Machine

/-- FULL_SCALE_CODE as a voltage factor (R6). -/
theorem fullScaleCode_cast : (Config.fullScaleCode : Volt) = 255 := Nat.cast_ofNat

/-- The formula of R113. -/
theorem codeToVoltage_eq (c : Byte) (r : Volt) : codeToVoltage c r = c.toNat * r / 255 := by
  rw [codeToVoltage, fullScaleCode_cast]

/-- Settles O19: the formula, evaluated at the codes 0 and 255. -/
theorem codeToVoltageFunction : Obligations.CodeToVoltageFunction := by
  unfold Obligations.CodeToVoltageFunction
  refine ⟨codeToVoltage_eq, fun r => ⟨?zero, ?full⟩⟩
  case zero =>
    calc codeToVoltage 0 r
      _ = ((0 : Nat) : Volt) * r / 255 := codeToVoltage_eq 0 r
      _ = 0 := by rw [Nat.cast_zero, zero_mul, zero_div]
  case full =>
    calc codeToVoltage 255 r
      _ = 255 * r / 255 := codeToVoltage_eq 255 r
      _ = r := mul_div_cancel_left₀ r (by norm_num)

/-- A voltage at or above the upper limit is clamped to it (R115). -/
theorem clampVolt_of_ge {v hi : Volt} (h : hi ≤ v) : clampVolt v 0 hi = hi :=
  min_eq_right (h.trans (le_max_left v 0))

/-- A voltage at or below 0 is clamped to 0 (R115). -/
theorem clampVolt_of_nonpos {v hi : Volt} (h0 : 0 ≤ hi) (h : v ≤ 0) : clampVolt v 0 hi = 0 := by
  rw [clampVolt, max_eq_right h, min_eq_left h0]

/-- The scaled voltage x of R114 lies in 0 to 255. -/
theorem scaled_clampVolt_mem (v : Volt) {r : Volt} (hr : 0 < r) :
    0 ≤ clampVolt v 0 r / r * 255 ∧ clampVolt v 0 r / r * 255 ≤ 255 := by
  obtain ⟨lower, upper⟩ := clampVolt_mem v hr.le
  have ratio0 : 0 ≤ clampVolt v 0 r / r := div_nonneg lower hr.le
  have ratio1 : clampVolt v 0 r / r ≤ 1 := (div_le_one hr).mpr upper
  constructor <;> linarith

/-- The byte of `voltage_to_code` is the rounded integer itself: nothing wraps (R114). -/
theorem voltageToCode_toNat (m : RoundMode) (v : Volt) {r : Volt} (hr : 0 < r) :
    ((voltageToCode m v r).toNat : Int) = round8 m (clampVolt v 0 r / r * 255) := by
  obtain ⟨x0, x255⟩ := scaled_clampVolt_mem v hr
  obtain ⟨lower, upper⟩ := round8_mem m x0 x255
  rw [voltageToCode, fullScaleCode_cast, BitVec.toNat_ofInt]
  omega

/-- A voltage whose scaled value is the code's integer converts to that code. -/
theorem voltageToCode_eq_of_scaled {v r : Volt} (hr : 0 < r) {c : Byte}
    (h : clampVolt v 0 r / r * 255 = c.toNat) (m : RoundMode) : voltageToCode m v r = c := by
  refine BitVec.eq_of_toNat_eq (Int.ofNat_inj.mp ?_)
  rw [voltageToCode_toNat m v hr, h]
  exact round8_intCast m c.toNat

/-- Settles O20: the scaled voltage is bounded, so the byte holds the rounded integer. -/
theorem voltageToCodeFunction : Obligations.VoltageToCodeFunction := by
  unfold Obligations.VoltageToCodeFunction
  intro m v r hr
  obtain ⟨lower, upper⟩ := scaled_clampVolt_mem v hr
  exact ⟨lower, upper, voltageToCode_toNat m v hr⟩

/-- Settles O21: at either end the clamp answers r or 0, whose scaled values are 255 and 0. -/
theorem converterClamps : Obligations.ConverterClamps := by
  unfold Obligations.ConverterClamps
  refine ⟨fun m v r hr hv => voltageToCode_eq_of_scaled hr ?full m,
    fun m v r hr hv => voltageToCode_eq_of_scaled hr ?zero m,
    fun v r hr => ⟨fun h => clampVolt_of_ge h.le, fun h => clampVolt_of_nonpos hr h.le,
      clampVolt_of_mem⟩⟩
  case full =>
    calc clampVolt v 0 r / r * 255
      _ = r / r * 255 := by rw [clampVolt_of_ge hv]
      _ = 255 := by rw [div_self hr.ne', one_mul]
  case zero =>
    calc clampVolt v 0 r / r * 255
      _ = 0 / r * 255 := by rw [clampVolt_of_nonpos hr.le hv]
      _ = ((0 : Nat) : Volt) := by rw [zero_div, zero_mul, Nat.cast_zero]

end Sys2Proof.Machine
end

section
/-! WRITE_RAW, and the READ_CHANNEL commands on an invalid channel (spec/43_session.md R150,
R158). -/

namespace Sys2Proof.Machine

variable {s : State}

/-- The state WRITE_* ends in, by the port's answer to its transmit (R133, R150). -/
theorem writeDac_answered {p : PortAnswer} (h : s.answerAt 0 = some p) (code : Byte) :
    writeDac s code =
      ((s.dacReady code).takeAnswer
        (.tx Config.devAddr [fnEnableDac s.cb true, code] p.ok)).finish
          (if p.ok then .ok else .busTransferFailed) := by
  refine writeDac_elim (P := (· = _)) (fun silent => ?silent) (fun a ha fail => ?failed)
    (fun a ha ok => ?good)
  case silent => exact nomatch silent.symm.trans h
  case failed =>
    obtain rfl := Option.some.inj (ha.symm.trans h)
    rw [fail]
    rfl
  case good =>
    obtain rfl := Option.some.inj (ha.symm.trans h)
    rw [ok]
    rfl

/-- The end of WRITE_* as a command's end with CB and DAC_DATA written (R150, R151). -/
theorem dacReady_finish (s : State) (code : Byte) (e : BusEvent) (st : Status) :
    ((s.clearResults.dacReady code).takeAnswer e).finish st =
      { commandEnd s st Results.cleared [.txCmdData, .idle] [e] with
        cb := s.cb ||| 0x40, dacData := some code } := by
  rw [commandEnd, List.append_cons s.phases]
  rfl

/-- Settles O29: in Ready the port's answer to the one transmit decides STATUS. -/
theorem writeRawRule : Obligations.WriteRawRule := by
  unfold Obligations.WriteRawRule
  refine ⟨fun b => decode_packWord (m := .writeRaw) (by decide) (Form.fits_b.mpr rfl),
    fun s b p ready answer => ?_⟩
  calc exec (.writeRaw b) s
    _ = .next (writeDac s.clearResults b) := admitReady_ready ready _
    _ = .next { commandEnd s (if p.ok then .ok else .busTransferFailed) Results.cleared
          [.txCmdData, .idle] [.tx 0x48 [s.cb ||| 0x40, b] p.ok] with
        cb := s.cb ||| 0x40, dacData := some b } := by
      rw [writeDac_answered ((s.clearResults_answerAt 0).trans answer), dacReady_finish]
      rfl

/-- A channel out of range is an error before CB is written or a request issued (R158). -/
theorem readChannel_invalid {a : Nibble} (ha : 3 < a) (results : Byte → Volt → Results) :
    readChannel s a results = s.raise .invalidChannel := by
  rw [readChannel, fnSetChannel_invalid ha]

/-- A READ_CHANNEL command in Ready with a channel out of range raises InvalidChannel (R158). -/
theorem admitReady_readChannel_invalid (ready : s.session = .ready) {a : Nibble} (ha : 3 < a)
    (results : Byte → Volt → Results) :
    admitReady s (readChannel · a results) = .next (s.clearResults.raise .invalidChannel) := by
  rw [admitReady_ready ready, readChannel_invalid ha]

/-- Settles O37: both commands take the shared path, which checks the channel first. -/
theorem invalidChannelBeforeBus : Obligations.InvalidChannelBeforeBus := by
  unfold Obligations.InvalidChannelBeforeBus
  intro s a i ha hi ready
  obtain rfl | rfl := hi
  · exact admitReady_readChannel_invalid ready ha _
  · exact admitReady_readChannel_invalid ready ha _

end Sys2Proof.Machine
end

section
/-! The reset state (R187). -/

namespace Sys2Proof.Machine

/-- Settles O43: each single-valued register is a field `State.reset` writes out; the two result
arrays hold the cleared results at every channel. -/
theorem resetRegisters : Obligations.ResetRegisters := by
  unfold Obligations.ResetRegisters
  have arrays (c : Channel) :
      State.reset.results.code[c] = none ∧ State.reset.results.volts[c] = none :=
    ⟨Results.cleared_code c, Results.cleared_volts c⟩
  exact ⟨rfl, rfl, rfl, rfl, rfl, rfl, rfl, rfl, rfl, rfl, rfl, rfl, rfl, rfl, rfl, rfl, rfl, rfl,
    rfl, arrays⟩

end Sys2Proof.Machine
end

section
/-! Decoding and encoding are inverse (spec/30_encoding.md R73, R76, R88). -/

namespace Sys2Proof

variable {w : Word} {r : OpcodeRow} {m : Mnemonic} {a : Nibble} {b : Byte}

/-- The operand form of each mnemonic (R79). -/
def Mnemonic.form : Mnemonic → Form
  | .crSetChannel => .ab
  | .crSetInputMode => .mb
  | .crEnableDac => .eb
  | .crSetAi | .crClearAi | .crDecode | .convC2v | .writeRaw => .b
  | .init => .i
  | .readChannelRaw | .readChannelVoltage => .ch
  | .convV2c | .writeVoltage | .readAllRaw | .readAllVoltage => .z

theorem Form.fits_i : Form.i.Fits a b := ⟨BitVec.and_zero, BitVec.and_zero⟩

/-- The table's form column is the form of the row's mnemonic (R79). -/
theorem opcodeTable_form : ∀ r ∈ opcodeTable, r.form = r.mnemonic.form := by
  decide

/-- Every mnemonic has a row (R79). -/
theorem exists_row (m : Mnemonic) : ∃ r ∈ opcodeTable, r.mnemonic = m ∧ r.form = m.form := by
  cases m <;> decide

@[simp] theorem Mnemonic.build_mnemonic (m : Mnemonic) (a : Nibble) (b : Byte) :
    (m.build a b).mnemonic = m := by
  cases m <;> rfl

/-- A command is built from its own fields (R85). -/
theorem Instr.build_args (i : Instr) : i.mnemonic.build i.argA i.argB = i := by
  cases i <;> rfl

/-- A command built from fields that fit its form has those fields (R76). -/
theorem Mnemonic.build_arg (h : m.form.Fits a b) :
    (m.build a b).argA = a ∧ (m.build a b).argB = b := by
  cases m with
  | crSetChannel | crSetInputMode | crEnableDac | init => exact ⟨rfl, rfl⟩
  | crSetAi | crClearAi | crDecode | convC2v | writeRaw => exact ⟨(Form.fits_b.mp h).symm, rfl⟩
  | readChannelRaw | readChannelVoltage => exact ⟨rfl, (Form.fits_ch.mp h).symm⟩
  | convV2c | writeVoltage | readAllRaw | readAllVoltage =>
    obtain ⟨rfl, rfl⟩ := Form.fits_z.mp h
    exact ⟨rfl, rfl⟩

/-- A command is well-formed where its fields fit its form (R76, R81). -/
theorem Instr.wellFormed_iff_fits (i : Instr) :
    i.wellFormed = true ↔ i.mnemonic.form.Fits i.argA i.argB := by
  cases i with
  | crEnableDac byte enabled => exact beq_iff_eq.trans Form.fits_eb.symm
  | crSetChannel => exact iff_of_true rfl Form.fits_ab
  | crSetInputMode => exact iff_of_true rfl Form.fits_mb
  | init => exact iff_of_true rfl Form.fits_i
  | crSetAi | crClearAi | crDecode | convC2v | writeRaw =>
    exact iff_of_true rfl (Form.fits_b.mpr rfl)
  | readChannelRaw | readChannelVoltage => exact iff_of_true rfl (Form.fits_ch.mpr rfl)
  | convV2c | writeVoltage | readAllRaw | readAllVoltage =>
    exact iff_of_true rfl (Form.fits_z.mpr ⟨rfl, rfl⟩)

/-- The word of a well-formed command decodes to the command. -/
theorem decode_encode {i : Instr} (h : i.wellFormed = true) : decode (encode i) = .ok i :=
  calc decode (encode i)
    _ = .ok (i.mnemonic.build i.argA i.argB) :=
      decode_packWord (exists_row i.mnemonic) (i.wellFormed_iff_fits.mp h)
    _ = .ok i := by rw [i.build_args]

/-- Settles O2: the word's fields fit the row of its opcode, and the row builds the command back. -/
theorem decodeOfEncode : Obligations.DecodeOfEncode := by
  unfold Obligations.DecodeOfEncode
  exact fun i => decode_encode

/-- Settles O3: the fields of a decoded word fit its row, so the command it builds has exactly the
word's fields. -/
theorem encodeOfDecode : Obligations.EncodeOfDecode := by
  unfold Obligations.EncodeOfDecode
  intro w i h
  obtain ⟨r, hr, hop, hfits, rfl⟩ := decode_ok_cases h
  rw [opcodeTable_form r hr] at hfits
  obtain ⟨hA, hB⟩ := Mnemonic.build_arg hfits
  refine ⟨(Instr.wellFormed_iff_fits _).mpr ?fits, ?word⟩
  case fits => rwa [Mnemonic.build_mnemonic, hA, hB]
  case word => rw [encode, Mnemonic.build_mnemonic, hA, hB, ← hop, packWord_fields]

/-- Settles O1: each of the fifteen legal words is the word of its command; each of the three
illegal words selects no row. -/
theorem specWordsDecode : Obligations.SpecWordsDecode := by
  unfold Obligations.SpecWordsDecode
  have enc {i : Instr} {w : Word} (h : i.wellFormed = true) (hw : encode i = w) :
      decode w = .ok i := hw ▸ decode_encode h
  exact ⟨enc rfl rfl, enc rfl rfl, enc rfl rfl, enc rfl rfl, enc rfl rfl, enc rfl rfl, enc rfl rfl,
    enc rfl rfl, enc rfl rfl, enc rfl rfl, enc rfl rfl, enc rfl rfl, enc rfl rfl, enc rfl rfl,
    enc rfl rfl, by decide, by decide, by decide⟩

/-! Decoding as a case analysis on OP (R80, R81). -/

/-- A word whose fields fit the row of its OP decodes to the row's command. -/
theorem decode_of_fits (hop : fieldOp w = m.opcode) (h : m.form.Fits (fieldA w) (fieldB w)) :
    decode w = .ok (m.build (fieldA w) (fieldB w)) := by
  rw [← decode_packWord (exists_row m) h, ← hop, packWord_fields]

/-- A word that selects no row is illegal, by its OP (R80, R81). -/
theorem decode_of_selectRow_none (h : selectRow w = none) :
    decode w = .error (if fieldOp w = 0 then .reservedOpcode else .mustBeZero) := by
  rw [decode, h]

/-- A word with OP 0 selects no row (R80). -/
theorem decode_of_opcode_zero (hop : fieldOp w = 0) : decode w = .error .reservedOpcode := by
  rw [decode_of_selectRow_none, if_pos hop]
  refine Option.eq_none_iff_forall_ne_some.mpr fun r hsel => ?_
  obtain ⟨hr, hmatch⟩ := selectRow_eq_some hsel
  exact opcode_ne_zero _ (((and_mask_eq_pattern_iff hr).mp hmatch).left.symm.trans hop)

/-- A word with a 1 in a must-be-zero bit of its OP's form selects no row (R81). -/
theorem decode_of_not_fits (hop : fieldOp w = m.opcode)
    (h : ¬ m.form.Fits (fieldA w) (fieldB w)) : decode w = .error .mustBeZero := by
  rw [decode_of_selectRow_none, if_neg (hop ▸ opcode_ne_zero m)]
  refine Option.eq_none_iff_forall_ne_some.mpr fun r hsel => h ?_
  obtain ⟨hr, hmatch⟩ := selectRow_eq_some hsel
  obtain ⟨hop', hfits⟩ := (and_mask_eq_pattern_iff hr).mp hmatch
  obtain ⟨r', hr', rfl, hform⟩ := exists_row m
  obtain rfl := opcodeTable_opcode_inj r hr r' hr' (hop'.symm.trans hop)
  exact hform ▸ hfits

/-- Decoding a word with the OP of `m` is the test of the must-be-zero bits. -/
theorem decode_of_opcode (m : Mnemonic) (hop : fieldOp w = m.opcode) {p : Prop} [Decidable p]
    (hp : m.form.Fits (fieldA w) (fieldB w) ↔ p) :
    decode w =
      if p then .ok (m.build (fieldA w) (fieldB w)) else .error .mustBeZero := by
  split
  · exact decode_of_fits hop (hp.mpr ‹_›)
  · exact decode_of_not_fits hop (mt hp.mp ‹_›)

/-- Settles O4: OP 0 has no row, and each other OP is that of one mnemonic, whose form names the
must-be-zero bits. -/
theorem decodeByFields : Obligations.DecodeByFields := by
  unfold Obligations.DecodeByFields
  intro w
  generalize hn : (fieldOp w).toNat = n
  have op {x : Nibble} (hx : x.toNat = n) : fieldOp w = x :=
    BitVec.eq_of_toNat_eq (hn.trans hx.symm)
  have lt : n < 16 := hn ▸ (fieldOp w).isLt
  match n with
  | 0 => exact decode_of_opcode_zero (op rfl)
  | 1 => exact decode_of_fits (m := .crSetChannel) (op rfl) Form.fits_ab
  | 2 => exact decode_of_fits (m := .crSetInputMode) (op rfl) Form.fits_mb
  | 3 => exact decode_of_opcode .crEnableDac (op rfl) Form.fits_eb
  | 4 => exact decode_of_opcode .crSetAi (op rfl) Form.fits_b
  | 5 => exact decode_of_opcode .crClearAi (op rfl) Form.fits_b
  | 6 => exact decode_of_opcode .crDecode (op rfl) Form.fits_b
  | 7 => exact decode_of_opcode .convC2v (op rfl) Form.fits_b
  | 8 => exact decode_of_opcode .convV2c (op rfl) Form.fits_z
  | 9 => exact decode_of_fits (m := .init) (op rfl) Form.fits_i
  | 10 => exact decode_of_opcode .writeRaw (op rfl) Form.fits_b
  | 11 => exact decode_of_opcode .writeVoltage (op rfl) Form.fits_z
  | 12 => exact decode_of_opcode .readChannelRaw (op rfl) Form.fits_ch
  | 13 => exact decode_of_opcode .readChannelVoltage (op rfl) Form.fits_ch
  | 14 => exact decode_of_opcode .readAllRaw (op rfl) Form.fits_z
  | 15 => exact decode_of_opcode .readAllVoltage (op rfl) Form.fits_z
  | n + 16 => omega

end Sys2Proof

namespace Sys2Proof.Machine

/-! The assembler (R85). -/

/-- Fields within their limits assemble to the word packed from them. -/
theorem assembleFields_toNat (m : Mnemonic) (b : Byte) (a : Nibble) :
    assembleFields m b.toNat a.toNat = some (packWord m.opcode a b) := by
  have hb : b.toNat ≤ 255 := Nat.le_of_lt_succ b.isLt
  have ha : a.toNat ≤ 15 := Nat.le_of_lt_succ a.isLt
  simp only [assembleFields, byteOperand, nibbleOperand, if_pos hb, if_pos ha, BitVec.ofNat_toNat,
    BitVec.setWidth_eq]

/-- A byte operand above 255 gives no word. -/
theorem assembleFields_byte_above {b : Nat} (hb : 255 < b) (m : Mnemonic) (a : Nat) :
    assembleFields m b a = none := by
  simp only [assembleFields, byteOperand, if_neg (Nat.not_le.mpr hb)]

/-- A channel, mode or enabled operand above 15 gives no word. -/
theorem assembleFields_nibble_above {a : Nat} (ha : 15 < a) (m : Mnemonic) (b : Nat) :
    assembleFields m b a = none := by
  simp only [assembleFields, nibbleOperand, if_neg (Nat.not_le.mpr ha)]
  cases byteOperand b <;> rfl

/-- A command's operands assemble as its two fields, the must-be-zero one 0 (R76, R85). -/
theorem assemble_operands (i : Instr) :
    assemble i.mnemonic (instrOperands i) =
      assembleFields i.mnemonic i.argB.toNat i.argA.toNat := by
  cases i <;> rfl

/-- Settles O7: every assembler line is a use of `assembleFields`, which checks both limits. -/
theorem assemblerMatchesEncoder : Obligations.AssemblerMatchesEncoder := by
  unfold Obligations.AssemblerMatchesEncoder
  refine ⟨fun i _ => ?word, fun b a hb => ?byte, fun b a ha => ?nibble⟩
  case word => rw [assemble_operands, assembleFields_toNat, encode]
  case byte =>
    have noWord := assembleFields_byte_above hb
    exact ⟨noWord _ a, noWord _ a, noWord _ a, noWord _ 0, noWord _ 0, noWord _ 0, noWord _ 0,
      noWord _ 0, noWord _ a⟩
  case nibble =>
    have noWord := assembleFields_nibble_above ha
    exact ⟨noWord _ b, noWord _ b, noWord _ b, noWord _ b, noWord _ 0, noWord _ 0⟩

end Sys2Proof.Machine
end

section
/-! Machines that differ only in stale leading bytes (spec/42_sequencer.md R136; spec/10_state.md
R52 item 4). Every operation of the block takes such twins to twins. -/

namespace Sys2Proof.Machine

variable {s t : State}

theorem sameEventButStale.refl (e : BusEvent) : sameEventButStale e e := by
  unfold sameEventButStale
  split
  · exact ⟨rfl, rfl, rfl⟩
  · rfl

theorem sameAnswerButStale.refl (a : Option PortAnswer) : sameAnswerButStale a a := by
  cases a with
  | none => exact trivial
  | some a => exact ⟨rfl, rfl⟩

/-! Reads and updates of registers. -/

/-- What does not depend on the port's answers and TRACE is the same in twins. -/
theorem StaleTwins.get {α : Type} {g : State → α}
    (hg : ∀ s p q, g { s with port := p, trace := q } = g s) (h : StaleTwins s t) : g t = g s := by
  rw [h.rest, hg]

/-- An update that neither reads nor writes the port's answers and TRACE keeps twins. -/
theorem StaleTwins.update {f : State → State}
    (hf : ∀ s p q, f { s with port := p, trace := q } = { f s with port := p, trace := q })
    (h : StaleTwins s t) : StaleTwins (f s) (f t) := by
  have port (u : State) : (f u).port = u.port := (congrArg State.port (hf u u.port u.trace) :)
  have trace (u : State) : (f u).trace = u.trace := (congrArg State.trace (hf u u.port u.trace) :)
  refine ⟨?_, ?_, ?_⟩
  · rw [port, port]; exact h.port
  · rw [trace, trace]; exact h.trace
  · rw [port, trace, ← hf, ← h.rest]

/-- The next answers of twins differ at most in the stale byte. -/
theorem StaleTwins.answer (h : StaleTwins s t) : sameAnswerButStale s.answer t.answer := by
  have hid : t.portId = s.portId := h.get fun _ _ _ => rfl
  have hdraws : t.draws = s.draws := h.get fun _ _ _ => rfl
  have hport := h.port
  rw [State.answer, State.answer, State.answerAt, State.answerAt, hid, hdraws]
  generalize s.port = p at hport ⊢
  generalize t.port = q at hport ⊢
  cases hport with
  | nil => exact .refl _
  | cons hab _ => exact hab

/-- Taking answers for requests that differ at most in the stale byte keeps twins. -/
theorem StaleTwins.takeAnswer (h : StaleTwins s t) {e e' : BusEvent}
    (he : sameEventButStale e e') : StaleTwins (s.takeAnswer e) (t.takeAnswer e') :=
  ⟨List.forall₂_drop 1 h.port, List.rel_append h.trace (.cons he .nil),
    (congrArg (State.takeAnswer · e') h.rest :)⟩

/-! Received bytes. -/

/-- Answers that differ at most in the stale byte give the same readings (R136). -/
theorem discardStale_of_same {a b : PortAnswer} (h : a.bytes.toList.tail = b.bytes.toList.tail)
    (n : Nat) (hn : n + 1 ≤ 5) :
    discardStale n (receivedBytes a (n + 1) hn) = discardStale n (receivedBytes b (n + 1) hn) := by
  refine Vector.ext fun j hj => ?_
  have tail (c : PortAnswer) : c.bytes.toList.tail[j]? = some (c.bytes[j + 1]'(by omega)) := by
    simp
  rw [discardStale_receivedBytes a n hn j hj, discardStale_receivedBytes b n hn j hj]
  exact Option.some.inj ((tail a).symm.trans ((congrArg (·[j]?) h).trans (tail b)))

/-- All but the first of the received bytes are the readings (R136). -/
theorem tail_toList (n : Nat) (v : Vector Byte (n + 1)) :
    v.toList.tail = (discardStale n v).toList := by
  refine List.ext_getElem (by simp) fun j _ hj => ?_
  simp [discardStale]

/-! The transport requests. -/

/-- The ports of twins are silent together, or answer alike but for the stale byte. -/
theorem StaleTwins.answer_cases (h : StaleTwins s t) :
    (s.answer = none ∧ t.answer = none) ∨ ∃ a b, s.answer = some a ∧ t.answer = some b ∧
      b.ok = a.ok ∧ a.bytes.toList.tail = b.bytes.toList.tail := by
  have same := h.answer
  revert same
  cases s.answer with
  | none =>
    cases t.answer with
    | none => exact fun _ => .inl ⟨rfl, rfl⟩
    | some b => exact False.elim
  | some a =>
    cases t.answer with
    | none => exact False.elim
    | some b => exact fun ⟨ok, tail⟩ => .inr ⟨a, b, rfl, rfl, ok.symm, tail⟩

/-- A probe keeps twins if what follows does. -/
theorem StaleTwins.busProbe {k : Bool → State → State} (h : StaleTwins s t)
    (hk : ∀ ready u v, StaleTwins u v → StaleTwins (k ready u) (k ready v)) :
    StaleTwins (busProbe s k) (busProbe t k) := by
  unfold Machine.busProbe
  obtain ⟨hs, ht⟩ | ⟨a, b, hs, ht, ok, -⟩ := h.answer_cases
  · simp only [hs, ht]
    exact h
  · simp only [hs, ht, ok]
    exact hk _ _ _ (h.takeAnswer (.refl _))

/-- A transmit of the same bytes keeps twins if what follows does. -/
theorem StaleTwins.busTx {bytes : List Byte} {k : Bool → State → State} (h : StaleTwins s t)
    (hk : ∀ ok u v, StaleTwins u v → StaleTwins (k ok u) (k ok v)) :
    StaleTwins (busTx s bytes k) (busTx t bytes k) := by
  unfold Machine.busTx
  obtain ⟨hs, ht⟩ | ⟨a, b, hs, ht, ok, -⟩ := h.answer_cases
  · simp only [hs, ht]
    exact h
  · simp only [hs, ht, ok]
    exact hk _ _ _ (h.takeAnswer (.refl _))

/-- A receive keeps twins if what follows does with the same readings. -/
theorem StaleTwins.busRx {n : Nat} {hn : n + 1 ≤ 5}
    {k : Option (Vector Byte (n + 1)) → State → State} (h : StaleTwins s t)
    (failed : ∀ u v, StaleTwins u v → StaleTwins (k none u) (k none v))
    (received : ∀ b b' u v, discardStale n b = discardStale n b' → StaleTwins u v →
      StaleTwins (k (some b) u) (k (some b') v)) :
    StaleTwins (busRx s (n + 1) hn k) (busRx t (n + 1) hn k) := by
  unfold Machine.busRx
  obtain ⟨hs, ht⟩ | ⟨a, b, hs, ht, ok, tail⟩ := h.answer_cases
  · simp only [hs, ht]
    exact h
  · have readings := discardStale_of_same tail n hn
    simp only [hs, ht, ok]
    split
    · refine received _ _ _ _ readings (h.takeAnswer ⟨rfl, rfl, ?_⟩)
      rw [tail_toList, tail_toList, readings]
    · exact failed _ _ (h.takeAnswer (.refl _))

/-! The transaction shapes. -/

theorem StaleTwins.setSeq (h : StaleTwins s t) (p : Phase) :
    StaleTwins (s.setSeq p) (t.setSeq p) :=
  h.update (f := (State.setSeq · p)) fun _ _ _ => rfl

theorem StaleTwins.finish (h : StaleTwins s t) (st : Status) :
    StaleTwins (s.finish st) (t.finish st) :=
  h.update (f := (State.finish · st)) fun _ _ _ => rfl

theorem StaleTwins.finishWith (h : StaleTwins s t) (r : Results) :
    StaleTwins (s.finishWith r) (t.finishWith r) :=
  h.update (f := (State.finishWith · r)) fun _ _ _ => rfl

theorem StaleTwins.refuse (h : StaleTwins s t) (r : Refusal) :
    StaleTwins (s.refuse r) (t.refuse r) :=
  h.update (f := (State.refuse · r)) fun _ _ _ => rfl

theorem StaleTwins.txCmd {k : State → State} (h : StaleTwins s t)
    (hk : ∀ u v, StaleTwins u v → StaleTwins (k u) (k v)) :
    StaleTwins (txCmd s k) (txCmd t k) := by
  have cb : t.cb = s.cb := h.get fun _ _ _ => rfl
  unfold Machine.txCmd
  rw [cb]
  refine (h.setSeq .txCmd).busTx fun ok u v huv => ?_
  cases ok with
  | true => exact hk u v huv
  | false => exact huv.finish _

theorem StaleTwins.txCmdData {k : State → State} (h : StaleTwins s t)
    (hk : ∀ u v, StaleTwins u v → StaleTwins (k u) (k v)) :
    StaleTwins (txCmdData s k) (txCmdData t k) := by
  have cb : t.cb = s.cb := h.get fun _ _ _ => rfl
  have dacData : t.dacData = s.dacData := h.get fun _ _ _ => rfl
  unfold Machine.txCmdData
  rw [cb, dacData]
  cases s.dacData with
  | none => exact h.update (f := fun u => (u.faultAt .readUnwritten).idleSeq) fun _ _ _ => rfl
  | some d =>
    refine (h.setSeq .txCmdData).busTx fun ok u v huv => ?_
    cases ok with
    | true => exact hk u v huv
    | false => exact huv.finish _

theorem StaleTwins.readN {n : Nat} {hn : n ≤ 4} {k : Vector Byte n → State → State}
    (h : StaleTwins s t)
    (hk : ∀ codes u v, StaleTwins u v → StaleTwins (k codes u) (k codes v)) :
    StaleTwins (readN s n hn k) (readN t n hn k) := by
  refine h.txCmd fun u v huv => (huv.setSeq .rx).busRx (fun _ _ h' => h'.finish _)
    fun b b' _ _ readings h' => ?_
  simp only [readings]
  exact hk _ _ _ h'

theorem StaleTwins.commit (h : StaleTwins s t) (r : Volt) (c : Channel) (code : Byte) :
    StaleTwins (commit s r c code) (commit t r c code) :=
  h.update (f := (Machine.commit · r c code)) fun _ _ _ => rfl

theorem StaleTwins.commitAll (h : StaleTwins s t) (r : Volt) (codes : Vector Byte 4) :
    StaleTwins (commitAll s r codes) (commitAll t r codes) :=
  (((h.commit r 0 codes[0]).commit r 1 codes[1]).commit r 2 codes[2]).commit r 3 codes[3]

/-! The reading of operands. -/

theorem StaleTwins.withVin {k k' : Volt → State} (h : StaleTwins s t)
    (hk : ∀ v, StaleTwins (k v) (k' v)) : StaleTwins (withVin s k) (withVin t k') := by
  have vin : t.vin = s.vin := h.get fun _ _ _ => rfl
  unfold Machine.withVin
  rw [vin]
  cases s.vin with
  | none => exact h.update (f := fun u => (u.faultAt .readUnwritten).idleSeq) fun _ _ _ => rfl
  | some v => exact hk v

theorem StaleTwins.withReference {ref ref' : Option Volt} {k k' : Volt → State}
    (h : StaleTwins s t) (href : ref' = ref) (hk : ∀ r, StaleTwins (k r) (k' r)) :
    StaleTwins (withReference s ref k) (withReference t ref' k') := by
  subst href
  cases ref' with
  | none => exact h.update (f := fun u => (u.faultAt .readUnwritten).idleSeq) fun _ _ _ => rfl
  | some r =>
    unfold Machine.withReference
    simp only
    split
    · exact h.update (f := fun u => (u.refuse .nonPositiveReference).idleSeq) fun _ _ _ => rfl
    · exact hk r

/-! The shared paths of the session commands. -/

theorem StaleTwins.writeDac (h : StaleTwins s t) (code : Byte) :
    StaleTwins (writeDac s code) (writeDac t code) :=
  (h.update (f := fun u => (u.setCb (fnEnableDac u.cb true)).setDacData code)
    fun _ _ _ => rfl).txCmdData fun _ _ huv => huv.finish .ok

theorem StaleTwins.readChannel (h : StaleTwins s t) (a : Nibble)
    (results : Byte → Volt → Results) :
    StaleTwins (readChannel s a results) (readChannel t a results) := by
  unfold Machine.readChannel
  by_cases ha : 3 < a
  · rw [fnSetChannel_invalid ha, fnSetChannel_invalid ha]
    exact h.finish _
  · rw [fnSetChannel_valid ha, fnSetChannel_valid ha]
    refine (h.update (f := fun u => u.setCb (u.cb &&& 0xFC ||| a.setWidth 8))
      fun _ _ _ => rfl).readN fun codes u v huv => ?_
    refine huv.withReference (huv.get (g := State.vref) fun _ _ _ => rfl) fun r => ?_
    exact ((huv.setSeq .commit).commit r (channelArg a) codes[0]).finishWith _

theorem StaleTwins.readAll (h : StaleTwins s t) (results : Vector Byte 4 → Volt → Results) :
    StaleTwins (readAll s results) (readAll t results) := by
  refine (h.update (f := fun u => u.setCb (fnClearAi u.cb)) fun _ _ _ => rfl).readN
    fun codes u v huv => ?_
  refine huv.withReference (huv.get (g := State.vref) fun _ _ _ => rfl) fun r => ?_
  exact ((huv.setSeq .commit).commitAll r codes).finishWith _

/-! Outcomes. -/

/-- Two steps end alike: for the same reason, or in twins. -/
inductive TwinOutcomes :
    Host.Outcome State Fault Refusal → Host.Outcome State Fault Refusal → Prop where
  | next {s t : State} (h : StaleTwins s t) : TwinOutcomes (.next s) (.next t)
  | fault (f : Fault) : TwinOutcomes (.fault f) (.fault f)
  | refused (r : Refusal) : TwinOutcomes (.refused r) (.refused r)

theorem StaleTwins.admitCommand {rule : State → State} (h : StaleTwins s t)
    (hr : ∀ u v, StaleTwins u v → StaleTwins (rule u) (rule v)) :
    TwinOutcomes (admitCommand s rule) (admitCommand t rule) :=
  .next (hr _ _ (h.update (f := State.clearResults) fun _ _ _ => rfl))

theorem StaleTwins.admitReady {rule : State → State} (h : StaleTwins s t)
    (hr : ∀ u v, StaleTwins u v → StaleTwins (rule u) (rule v)) :
    TwinOutcomes (admitReady s rule) (admitReady t rule) := by
  have session : t.session = s.session := h.get fun _ _ _ => rfl
  cases hs : s.session with
  | uninitialized =>
    rw [admitReady_uninitialized hs, admitReady_uninitialized (session.trans hs)]
    exact .next (h.refuse _)
  | ready =>
    rw [admitReady_ready hs, admitReady_ready (session.trans hs)]
    exact h.admitCommand hr

theorem StaleTwins.execInit (h : StaleTwins s t) (b : Byte) (a : Nibble) :
    TwinOutcomes (execInit b a s) (execInit b a t) := by
  refine h.admitCommand fun u v huv => ?_
  refine huv.withReference (huv.get (g := State.vrefIn) fun _ _ _ => rfl) fun r => ?_
  refine (huv.update (f := fun w => (w.setVref r).setSeq .probe) fun _ _ _ => rfl).busProbe
    fun ready u v huv => ?_
  cases ready with
  | false => exact huv.finish _
  | true =>
    refine (huv.update (f := fun w => w.setCb (initCompose w.params.reinitPolicy w.cb
      (enableDacArg b) (modeArg a))) fun _ _ _ => rfl).txCmd fun u v huv => ?_
    exact huv.update (f := fun w => (w.setSession .ready).finish .ok) fun _ _ _ => rfl

/-- Twins run every command alike. -/
theorem StaleTwins.exec (h : StaleTwins s t) (i : Instr) : TwinOutcomes (exec i s) (exec i t) := by
  unfold Machine.exec
  cases i with
  | crSetChannel b a =>
    unfold execCrSetChannel
    refine h.admitCommand fun u v huv => ?_
    cases fnSetChannel b a with
    | error e => exact huv.finish _
    | ok r => exact huv.finishWith _
  | crSetInputMode | crEnableDac | crSetAi | crClearAi | crDecode =>
    exact h.admitCommand fun _ _ huv => huv.finishWith _
  | convC2v b =>
    unfold execConvC2v
    exact h.admitCommand fun u v huv =>
      huv.withReference (huv.get (g := State.vrefIn) fun _ _ _ => rfl) fun r => huv.finishWith _
  | convV2c =>
    unfold execConvV2c
    refine h.admitCommand fun u v huv => huv.withVin fun x =>
      huv.withReference (huv.get (g := State.vrefIn) fun _ _ _ => rfl) fun r => ?_
    exact huv.update (f := fun w => w.finishWith
      (Results.ofByte (voltageToCode w.params.roundMode x r))) fun _ _ _ => rfl
  | init b a => exact h.execInit b a
  | writeRaw b => exact h.admitReady fun _ _ huv => huv.writeDac b
  | writeVoltage =>
    unfold execWriteVoltage
    refine h.admitReady fun u v huv => huv.withVin fun x =>
      huv.withReference (huv.get (g := State.vref) fun _ _ _ => rfl) fun r => ?_
    have params : v.params = u.params := huv.get fun _ _ _ => rfl
    rw [params]
    exact huv.writeDac _
  | readChannelRaw a | readChannelVoltage a => exact h.admitReady fun _ _ huv => huv.readChannel a _
  | readAllRaw | readAllVoltage => exact h.admitReady fun _ _ huv => huv.readAll _

/-- A host read depends on neither the port nor TRACE. -/
theorem StaleTwins.hostRead (h : StaleTwins s t) (index : Byte) (w : Width) :
    StaleTwins (hostRead s index w) (hostRead t index w) := by
  refine h.update (f := (Machine.hostRead · index w)) fun s p q => ?_
  have value (r : Reg) : r.value { s with port := p, trace := q } = r.value s := by
    cases r <;> rfl
  unfold Machine.hostRead
  simp only [value]
  split
  · rfl
  · split
    · rfl
    · split
      · rfl
      · split <;> rfl

theorem StaleTwins.writeReg (h : StaleTwins s t) (r : Reg) (v : HostValue) :
    TwinOutcomes (writeReg s r v) (writeReg t r v) := by
  unfold Machine.writeReg
  split
  · unfold Machine.issue
    cases decode _ with
    | ok i => exact h.exec i
    | error e => exact .next (h.refuse _)
  · exact .next (h.update (f := (State.setVin · _)) fun _ _ _ => rfl)
  · exact .next (h.update (f := (State.setVrefIn · _)) fun _ _ _ => rfl)
  · exact .next (h.refuse _)

theorem StaleTwins.hostWrite (h : StaleTwins s t) (index : Byte) (v : HostValue) :
    TwinOutcomes (hostWrite s index v) (hostWrite t index v) := by
  unfold Machine.hostWrite
  split
  · exact .next (h.refuse _)
  · split
    · exact .next (h.refuse _)
    · exact h.writeReg _ v

theorem StaleTwins.access (h : StaleTwins s t) (a : HostAccess) :
    TwinOutcomes (access s a) (access t a) := by
  cases a with
  | read index w => exact .next (h.hostRead index w)
  | write index v => exact h.hostWrite index v

/-- Twins take the same step. -/
theorem StaleTwins.step (h : StaleTwins s t) : TwinOutcomes (step s) (step t) := by
  have fault : t.fault = s.fault := h.get fun _ _ _ => rfl
  have refused : t.refused = s.refused := h.get fun _ _ _ => rfl
  have seq : t.seq = s.seq := h.get fun _ _ _ => rfl
  have host : t.host = s.host := h.get fun _ _ _ => rfl
  unfold Machine.step stepState nextAccess
  rw [fault, refused, seq, host]
  cases s.fault with
  | some f => exact .fault f
  | none =>
    cases s.refused with
    | some r => exact .refused r
    | none =>
      simp only
      split
      · cases s.host with
        | nil => exact .next h
        | cons a rest =>
          exact (h.update (f := (State.setHost · rest)) fun _ _ _ => rfl).access a
      · exact .fault _

/-- Settles O55: every operation of the block takes twins to twins, up to the step; a receive does
because only the readings after the discard go on. -/
theorem staleByteNeverMatters : Obligations.StaleByteNeverMatters := by
  unfold Obligations.StaleByteNeverMatters
  intro s t h
  have same := h.step
  generalize step s = x at same ⊢
  generalize step t = y at same ⊢
  cases same with
  | next h' => exact h'
  | fault f => rfl
  | refused r => rfl

end Sys2Proof.Machine
end

section
/-! What a command can do, said once (spec/30_encoding.md R89 to R92; spec/43_session.md). Each fact
about every command is a case analysis on `CommandEnds`. -/

namespace Sys2Proof.Machine

variable {i : Instr} {s t : State}

/-- The ends of INIT from its reading of a reference `r` on (R147). -/
inductive InitEnds (s : State) (b : Byte) (a : Nibble) (r : Volt) : State → Prop where
  | silentProbe : InitEnds s b a r (s.probing r)
  | notReady : InitEnds s b a r
      (((s.probing r).takeAnswer (.probe Config.devAddr false)).raise .deviceNotReady)
  | silentTx : InitEnds s b a r ((s.composed r b a).setSeq .txCmd)
  | failedTx : InitEnds s b a r ((((s.composed r b a).setSeq .txCmd).takeAnswer
      (.tx Config.devAddr [(s.composed r b a).cb] false)).raise .busTransferFailed)
  | good : InitEnds s b a r (((((s.composed r b a).setSeq .txCmd).takeAnswer
      (.tx Config.devAddr [(s.composed r b a).cb] true)).setSession .ready).finish .ok)

/-- The ends of the path WRITE_RAW and WRITE_VOLTAGE share (R150, R151). -/
inductive DacEnds (s : State) (code : Byte) : State → Prop where
  | silent : DacEnds s code (s.dacReady code)
  | failed : DacEnds s code (((s.dacReady code).takeAnswer
      (.tx Config.devAddr [fnEnableDac s.cb true, code] false)).raise .busTransferFailed)
  | good : DacEnds s code (((s.dacReady code).takeAnswer
      (.tx Config.devAddr [fnEnableDac s.cb true, code] true)).finish .ok)

/-- The ends of a read of `n` bytes, from the state `s` that holds the CB it sends (R134, R152). Of
the caches a good end writes, `exec_cacheRule` speaks. -/
inductive ReadEnds (s : State) (n : Nat) : State → Prop where
  | silentTx : ReadEnds s n (s.setSeq .txCmd)
  | failedTx : ReadEnds s n
      (((s.setSeq .txCmd).takeAnswer (.tx Config.devAddr [s.cb] false)).raise .busTransferFailed)
  | silentRx : ReadEnds s n s.sent
  | failedRx : ReadEnds s n
      ((s.sent.takeAnswer (.rx Config.devAddr n none)).raise .busTransferFailed)
  | unwritten (bytes : Vector Byte n) :
      ReadEnds s n ((s.receivedReply n bytes.toList).faultAt .readUnwritten).idleSeq
  | nonPositive (bytes : Vector Byte n) :
      ReadEnds s n ((s.receivedReply n bytes.toList).refuse .nonPositiveReference).idleSeq
  | good (bytes : Vector Byte n) (raw : Vector Byte 4) (conv : Vector Volt 4) (r : Results) :
      ReadEnds s n (State.finishWith
        { (s.receivedReply n bytes.toList).setSeq .commit with lastRaw := raw, lastConv := conv } r)

/-- The commands that check a channel argument (R171). -/
def ChecksChannel (i : Instr) : Prop :=
  i.mnemonic = .crSetChannel ∨ i.mnemonic = .readChannelRaw ∨ i.mnemonic = .readChannelVoltage

/-- WRITE_RAW and WRITE_VOLTAGE. -/
def WritesDac (i : Instr) : Prop := i.mnemonic = .writeRaw ∨ i.mnemonic = .writeVoltage

/-- READ_CHANNEL_RAW and READ_CHANNEL_VOLTAGE. -/
def ReadsOne (i : Instr) : Prop :=
  i.mnemonic = .readChannelRaw ∨ i.mnemonic = .readChannelVoltage

/-- READ_ALL_RAW and READ_ALL_VOLTAGE. -/
def ReadsAll (i : Instr) : Prop := i.mnemonic = .readAllRaw ∨ i.mnemonic = .readAllVoltage

/-- The ends of a command issued in the state `s`. -/
inductive CommandEnds (s : State) : Instr → State → Prop where
  /-- The session gate refused (R90). -/
  | gated {i : Instr} (hcls : i.mnemonic.cls = .session) (hi : i.mnemonic ≠ .init)
      (hu : s.session = .uninitialized) : CommandEnds s i (s.refuse .notInitialized)
  /-- A voltage operand held none (R94). -/
  | unwritten {i : Instr} : CommandEnds s i (s.clearResults.faultAt .readUnwritten).idleSeq
  /-- The reference was not above 0 (R117). -/
  | nonPositive {i : Instr} : CommandEnds s i (s.clearResults.refuse .nonPositiveReference).idleSeq
  /-- The channel argument was out of range (R97, R158). -/
  | invalidChannel {i : Instr} (hi : ChecksChannel i) :
      CommandEnds s i (s.clearResults.raise .invalidChannel)
  /-- A pure command ended OK. -/
  | computed {i : Instr} (hi : i.mnemonic.cls = .pure) (r : Results) :
      CommandEnds s i (s.clearResults.finishWith r)
  | init {b : Byte} {a : Nibble} {r : Volt} {t : State} (hr : 0 < r)
      (h : InitEnds s.clearResults b a r t) : CommandEnds s (.init b a) t
  | write {i : Instr} {code : Byte} {t : State} (hi : WritesDac i) (hs : s.session = .ready)
      (h : DacEnds s.clearResults code t) : CommandEnds s i t
  | readChannel {i : Instr} {a : Nibble} {cb : Byte} {t : State} (hi : ReadsOne i)
      (hs : s.session = .ready) (hcb : fnSetChannel s.cb a = .ok cb)
      (h : ReadEnds (s.clearResults.setCb cb) 2 t) : CommandEnds s i t
  | readAll {i : Instr} {t : State} (hi : ReadsAll i) (hs : s.session = .ready)
      (h : ReadEnds (s.clearResults.setCb (fnClearAi s.cb)) 5 t) : CommandEnds s i t

theorem execInit_ends {b : Byte} {a : Nibble} (h : exec (.init b a) s = .next t) :
    CommandEnds s (.init b a) t :=
  execInit_elim (P := CommandEnds s (.init b a)) h (fun _ => .unwritten) (fun _ _ _ => .nonPositive)
    (fun _ _ h0 _ => .init h0 .silentProbe) (fun _ _ h0 => .init h0 .notReady)
    (fun _ _ h0 _ => .init h0 .silentTx) (fun _ _ h0 => .init h0 .failedTx)
    fun _ _ h0 => .init h0 .good

theorem writeDac_ends (s : State) (code : Byte) : DacEnds s code (writeDac s code) :=
  writeDac_elim (P := DacEnds s code) (fun _ => .silent) (fun _ _ _ => .failed)
    fun _ _ _ => .good

theorem readChannel_ends (hi : ReadsOne i) (hs : s.session = .ready) (a : Nibble)
    (results : Byte → Volt → Results) :
    CommandEnds s i (readChannel s.clearResults a results) := by
  unfold readChannel
  by_cases ha : 3 < a
  · rw [fnSetChannel_invalid ha]
    exact .invalidChannel (.inr hi)
  · rw [fnSetChannel_valid ha]
    refine .readChannel hi hs (fnSetChannel_valid ha s.cb) ?_
    refine readN_elim (P := ReadEnds _ 2) (fun _ => .silentTx) (fun _ _ _ => .failedTx)
      (fun _ => .silentRx) (fun _ _ _ => .failedRx) fun p _ _ => ?_
    exact withReference_elim (fun _ => .unwritten _) (fun _ _ _ => .nonPositive _)
      fun _ _ _ => .good ..

theorem readAll_ends (hi : ReadsAll i) (hs : s.session = .ready)
    (results : Vector Byte 4 → Volt → Results) :
    CommandEnds s i (readAll s.clearResults results) := by
  refine .readAll hi hs ?_
  refine readN_elim (P := ReadEnds _ 5) (fun _ => .silentTx) (fun _ _ _ => .failedTx)
    (fun _ => .silentRx) (fun _ _ _ => .failedRx) fun p _ _ => ?_
  exact withReference_elim (fun _ => .unwritten _) (fun _ _ _ => .nonPositive _)
    fun _ _ _ => .good ..

/-- Everything a command can do. -/
theorem exec_ends (h : exec i s = .next t) : CommandEnds s i t := by
  cases i with
  | crSetChannel b a =>
    exact execCrSetChannel_elim (P := CommandEnds s _) h (fun _ => .invalidChannel (.inl rfl))
      fun _ _ => .computed rfl _
  | crSetInputMode | crEnableDac | crSetAi | crClearAi | crDecode =>
    exact next_elim (P := CommandEnds s _) h (.computed rfl _)
  | convC2v b =>
    exact execConvC2v_elim (P := CommandEnds s _) h (fun _ => .unwritten)
      (fun _ _ _ => .nonPositive) fun _ _ _ => .computed rfl _
  | convV2c =>
    exact execConvV2c_elim (P := CommandEnds s _) h (fun _ => .unwritten)
      (fun _ _ _ _ _ => .nonPositive) fun _ _ _ _ _ => .computed rfl _
  | init b a => exact execInit_ends h
  | writeRaw b =>
    exact execWriteRaw_elim (P := CommandEnds s _) h (.gated rfl nofun)
      fun hs => .write (.inl rfl) hs (writeDac_ends _ _)
  | writeVoltage =>
    exact execWriteVoltage_elim (P := CommandEnds s _) h (.gated rfl nofun) (fun _ _ => .unwritten)
      (fun _ _ _ _ _ _ => .nonPositive) fun _ _ hs _ _ _ => .write (.inr rfl) hs (writeDac_ends _ _)
  | readChannelRaw a =>
    exact execReadChannelRaw_elim (P := CommandEnds s _) h (.gated rfl nofun)
      fun hs => readChannel_ends (.inl rfl) hs a _
  | readChannelVoltage a =>
    exact execReadChannelVoltage_elim (P := CommandEnds s _) h (.gated rfl nofun)
      fun hs => readChannel_ends (.inr rfl) hs a _
  | readAllRaw =>
    exact execReadAllRaw_elim (P := CommandEnds s _) h (.gated rfl nofun)
      fun hs => readAll_ends (.inl rfl) hs _
  | readAllVoltage =>
    exact execReadAllVoltage_elim (P := CommandEnds s _) h (.gated rfl nofun)
      fun hs => readAll_ends (.inr rfl) hs _

end Sys2Proof.Machine
end

section
/-! The fields of the control byte (spec/40_control_register.md R103, R112; spec/43_session.md
R145), and the ignored operand bits (spec/30_encoding.md R82). -/

namespace Sys2Proof.Machine

variable {x y mask : Byte}

/-- Bytes equal under a mask agree in every field the mask covers. -/
theorem extractLsb'_eq_of_and_eq (h : x &&& mask = y &&& mask) {start len : Nat}
    (hm : mask.extractLsb' start len = BitVec.allOnes len) :
    x.extractLsb' start len = y.extractLsb' start len := by
  have hf := congrArg (BitVec.extractLsb' start len) h
  simpa only [BitVec.extractLsb'_and, hm, BitVec.and_allOnes] using hf

/-- Bytes equal under a mask are equal under every mask it covers. -/
theorem and_eq_of_and_eq (h : x &&& mask = y &&& mask) {sub : Byte} (hs : mask &&& sub = sub) :
    x &&& sub = y &&& sub := by
  rw [← hs, ← BitVec.and_assoc, ← BitVec.and_assoc, h]

/-- A field cleared by the mask holds the bits set into it. -/
theorem extractLsb'_and_or {start len : Nat} (hm : mask.extractLsb' start len = 0) :
    (x &&& mask ||| y).extractLsb' start len = y.extractLsb' start len := by
  rw [BitVec.extractLsb'_or, BitVec.extractLsb'_and, hm]
  exact (congrArg (· ||| _) BitVec.and_zero).trans BitVec.zero_or

/-- A byte decodes by its four fields (R102). -/
theorem fnDecode_eq {f : CbFields} (ch : x.extractLsb' 0 2 = f.channel)
    (ai : x.getLsbD 2 = f.autoIncrement) (mode : x.extractLsb' 4 2 = f.inputMode)
    (dac : x.getLsbD 6 = f.dacEnable) : fnDecode x = f := by
  rw [fnDecode, ch, ai, mode, dac]

/-- Enabling or disabling the DAC sets bit 6 (R99). -/
theorem fnEnableDac_bit (b : Byte) (e : Bool) : (fnEnableDac b e).getLsbD 6 = e := by
  cases e with
  | true => exact (BitVec.getLsbD_or ..).trans (Bool.or_true _)
  | false => exact (BitVec.getLsbD_and ..).trans (Bool.and_false _)

theorem fnDecode_setInputMode (b : Byte) (m : Nibble) :
    fnDecode (fnSetInputMode b m) = { fnDecode b with inputMode := modeArg m } := by
  have keeps := fnSetInputMode_keeps b m
  have field : ((m &&& 0x3).setWidth 8 <<< 4 : Byte).extractLsb' 4 2 = modeArg m := by
    clear keeps
    revert m; decide
  exact fnDecode_eq (extractLsb'_eq_of_and_eq keeps (by decide))
    (getLsbD_eq_of_and_eq keeps (by decide)) ((extractLsb'_and_or (by decide)).trans field)
    (getLsbD_eq_of_and_eq keeps (by decide))

theorem fnDecode_enableDac (b : Byte) (e : Bool) :
    fnDecode (fnEnableDac b e) = { fnDecode b with dacEnable := e } := by
  have keeps := fnEnableDac_keeps b e
  exact fnDecode_eq (extractLsb'_eq_of_and_eq keeps (by decide))
    (getLsbD_eq_of_and_eq keeps (by decide)) (extractLsb'_eq_of_and_eq keeps (by decide))
    (fnEnableDac_bit b e)

theorem fnDecode_setAi (b : Byte) :
    fnDecode (fnSetAi b) = { fnDecode b with autoIncrement := true } := by
  have keeps := fnSetAi_keeps b
  exact fnDecode_eq (extractLsb'_eq_of_and_eq keeps (by decide))
    ((BitVec.getLsbD_or ..).trans (Bool.or_true _)) (extractLsb'_eq_of_and_eq keeps (by decide))
    (getLsbD_eq_of_and_eq keeps (by decide))

theorem fnDecode_clearAi (b : Byte) :
    fnDecode (fnClearAi b) = { fnDecode b with autoIncrement := false } := by
  obtain ⟨keeps, -⟩ := fnClearAi_keeps b
  exact fnDecode_eq (extractLsb'_eq_of_and_eq keeps (by decide))
    ((BitVec.getLsbD_and ..).trans (Bool.and_false _)) (extractLsb'_eq_of_and_eq keeps (by decide))
    (getLsbD_eq_of_and_eq keeps (by decide))

/-- A channel in range becomes the channel field (R96). -/
theorem fnDecode_setChannel {b r : Byte} {c : Nibble} (h : fnSetChannel b c = .ok r) :
    fnDecode r = { fnDecode b with channel := c.extractLsb' 0 2 } := by
  have hc : ¬ 3 < c := fun hc => nomatch (fnSetChannel_invalid hc b).symm.trans h
  obtain rfl := Except.ok.inj ((fnSetChannel_valid hc b).symm.trans h)
  have keeps := setChannel_keeps b hc
  have field : (c.setWidth 8 : Byte).extractLsb' 0 2 = c.extractLsb' 0 2 := by
    clear keeps h
    revert c; decide
  exact fnDecode_eq ((extractLsb'_and_or (by decide)).trans field)
    (getLsbD_eq_of_and_eq keeps (by decide)) (extractLsb'_eq_of_and_eq keeps (by decide))
    (getLsbD_eq_of_and_eq keeps (by decide))

/-- Settles O10: each setter changes its own field, and its mask covers the other fields and the
unused bits. -/
theorem fieldsAreIndependent : Obligations.FieldsAreIndependent := by
  unfold Obligations.FieldsAreIndependent
  refine fun b => ⟨fun c => ?channel, fun m => ⟨fnDecode_setInputMode b m, ?mode⟩,
    fun e => ⟨fnDecode_enableDac b e, ?dac⟩, ⟨fnDecode_setAi b, ?setAi⟩,
    ⟨fnDecode_clearAi b, ?clearAi⟩⟩
  case channel =>
    have hc : ¬ 3 < BitVec.ofNat 4 c.val := by revert c; decide
    have field : (BitVec.ofNat 4 c.val).extractLsb' 0 2 = BitVec.ofNat 2 c.val := by
      revert c; decide
    have valid := fnSetChannel_valid hc b
    refine ⟨_, valid, ?_, and_eq_of_and_eq (setChannel_keeps b hc) (by decide)⟩
    rw [fnDecode_setChannel valid, field]
  case mode => exact and_eq_of_and_eq (fnSetInputMode_keeps b m) (by decide)
  case dac => exact and_eq_of_and_eq (fnEnableDac_keeps b e) (by decide)
  case setAi => exact and_eq_of_and_eq (fnSetAi_keeps b) (by decide)
  case clearAi => exact and_eq_of_and_eq (fnClearAi_keeps b).left (by decide)

/-! Composing. -/

/-- The bits of a composed byte, least significant first: ch, ai, an unused 0, mode, dac and another
unused 0 (R111). -/
theorem fnCompose_getLsbD (dac : Bool) (mode : BitVec 2) (ai : Bool) (ch : BitVec 2) (j : Nat) :
    (fnCompose dac mode ai ch).getLsbD j =
      if j < 2 then ch.getLsbD j else if j < 3 then ai else if j < 4 then false
      else if j < 6 then mode.getLsbD (j - 4) else if j < 7 then dac else false := by
  change (((((0#1 ++ BitVec.ofBool dac) ++ mode) ++ 0#1) ++ BitVec.ofBool ai) ++ ch).getLsbD j = _
  rw [BitVec.getLsbD_append, BitVec.getLsbD_append, BitVec.getLsbD_append, BitVec.getLsbD_append,
    BitVec.getLsbD_append]
  simp only [BitVec.getLsbD_zero, BitVec.getLsbD_ofBool, Nat.sub_sub, Nat.reduceAdd]
  by_cases h2 : j < 2
  · simp only [h2, if_true]
  · have h3 : j - 2 < 1 ↔ j < 3 := by omega
    have h4 : j - 3 < 1 ↔ j < 4 := by omega
    have h6 : j - 4 < 2 ↔ j < 6 := by omega
    have h7 : j - 6 < 1 ↔ j < 7 := by omega
    simp only [h2, h3, h4, h6, h7, if_false]
    split_ifs
    · simp [show j - 2 = 0 by omega]
    · rfl
    · rfl
    · simp [show j - 6 = 0 by omega]
    · rfl

/-- Composing the fields of a byte clears the unused bits 7 and 3 (R112). -/
theorem fnCompose_decode (b : Byte) :
    fnCompose (fnDecode b).dacEnable (fnDecode b).inputMode (fnDecode b).autoIncrement
      (fnDecode b).channel = b &&& 0x77 := by
  refine BitVec.eq_of_getLsbD_eq fun j hj => ?_
  rw [fnCompose_getLsbD]
  interval_cases j <;> simp [fnDecode]

/-- Decoding a composed byte gives its fields (R112). -/
theorem fnDecode_compose : ∀ (dac : Bool) (mode : BitVec 2) (ai : Bool) (ch : BitVec 2),
    fnDecode (fnCompose dac mode ai ch) = ⟨ch, ai, mode, dac⟩ := by
  decide

/-- Settles O11: the 64 composed bytes by evaluation, and the composition of decoded fields bit by
bit. -/
theorem composeDecodeRoundTrip : Obligations.ComposeDecodeRoundTrip := by
  unfold Obligations.ComposeDecodeRoundTrip
  exact ⟨fnDecode_compose, fnCompose_decode⟩

theorem initCompose_zero (cb : Byte) (en : Bool) (mode : BitVec 2) :
    initCompose .zero cb en mode = fnCompose en mode false 0 := by
  change fnEnableDac (fnSetInputMode 0x00 (mode.setWidth 4)) en = _
  revert en mode
  decide

theorem initCompose_preserve (cb : Byte) (en : Bool) (mode : BitVec 2) :
    initCompose .preserve cb en mode = (cb &&& 0x8F) ||| fnCompose en mode false 0 := by
  refine BitVec.eq_of_getLsbD_eq fun j hj => ?_
  rw [BitVec.getLsbD_or, fnCompose_getLsbD]
  interval_cases j <;> cases en <;> simp [initCompose, fnEnableDac, fnSetInputMode]

/-- Settles O12: under ZERO nothing of CB is read, under PRESERVE the bits outside the two fields
stay, and where those are 0 the two agree. -/
theorem initComposesControlByte : Obligations.InitComposesControlByte := by
  unfold Obligations.InitComposesControlByte
  refine ⟨initCompose_zero, initCompose_preserve, fun policy cb en mode h => ?_⟩
  cases policy with
  | zero => exact initCompose_zero cb en mode
  | preserve =>
    rw [initCompose_preserve, h]
    exact BitVec.zero_or

/-! Ignored bits. -/

theorem and_three_eq_modeArg (a : Nibble) : a &&& 0x3 = (modeArg a).setWidth 4 := by
  revert a; decide

/-- Settles O6: form MB is read through the mask 0x3, and form I through its two operand readers. -/
theorem ignoredBitsChangeNothing : Obligations.IgnoredBitsChangeNothing := by
  unfold Obligations.IgnoredBitsChangeNothing
  refine ⟨fun b a a' (ha : modeArg a = modeArg a') s => ?mode,
    fun b b' a a' (hb : enableDacArg b = enableDacArg b') (ha : modeArg a = modeArg a') s => ?init⟩
  case mode =>
    have byte : fnSetInputMode b a = fnSetInputMode b a' := by
      rw [fnSetInputMode, fnSetInputMode, and_three_eq_modeArg, and_three_eq_modeArg, ha]
    simp only [exec, execCrSetInputMode, byte]
  case init => simp only [exec, execInit, hb, ha]

end Sys2Proof.Machine
end

section
/-! What every command keeps, and what it may write to SESSION, STATUS, CB and TRACE
(spec/10_state.md R25, R32 to R34, R41; spec/42_sequencer.md R141; spec/43_session.md R160;
spec/60_exceptions.md R171). -/

namespace Sys2Proof.Machine

variable {i : Instr} {s t : State}

/-! What sending and receiving leave. -/

@[simp] theorem State.sent_session (s : State) : s.sent.session = s.session := rfl
@[simp] theorem State.sent_cb (s : State) : s.sent.cb = s.cb := rfl
@[simp] theorem State.sent_vref (s : State) : s.sent.vref = s.vref := rfl
@[simp] theorem State.sent_dacData (s : State) : s.sent.dacData = s.dacData := rfl
@[simp] theorem State.sent_vin (s : State) : s.sent.vin = s.vin := rfl
@[simp] theorem State.sent_vrefIn (s : State) : s.sent.vrefIn = s.vrefIn := rfl
@[simp] theorem State.sent_status (s : State) : s.sent.status = s.status := rfl
@[simp] theorem State.sent_results (s : State) : s.sent.results = s.results := rfl
@[simp] theorem State.sent_refused (s : State) : s.sent.refused = s.refused := rfl
@[simp] theorem State.sent_fault (s : State) : s.sent.fault = s.fault := rfl
@[simp] theorem State.sent_params (s : State) : s.sent.params = s.params := rfl
@[simp] theorem State.sent_portId (s : State) : s.sent.portId = s.portId := rfl
@[simp] theorem State.sent_host (s : State) : s.sent.host = s.host := rfl
@[simp] theorem State.sent_replies (s : State) : s.sent.replies = s.replies := rfl

section

variable (s : State) (n : Nat) (bytes : List Byte)

@[simp] theorem State.receivedReply_session : (s.receivedReply n bytes).session = s.session :=
  State.takeAnswer_session ..
@[simp] theorem State.receivedReply_cb : (s.receivedReply n bytes).cb = s.cb :=
  State.takeAnswer_cb ..
@[simp] theorem State.receivedReply_vref : (s.receivedReply n bytes).vref = s.vref :=
  State.takeAnswer_vref ..
@[simp] theorem State.receivedReply_dacData : (s.receivedReply n bytes).dacData = s.dacData :=
  State.takeAnswer_dacData ..
@[simp] theorem State.receivedReply_vin : (s.receivedReply n bytes).vin = s.vin :=
  State.takeAnswer_vin ..
@[simp] theorem State.receivedReply_vrefIn : (s.receivedReply n bytes).vrefIn = s.vrefIn :=
  State.takeAnswer_vrefIn ..
@[simp] theorem State.receivedReply_status : (s.receivedReply n bytes).status = s.status :=
  State.takeAnswer_status ..
@[simp] theorem State.receivedReply_results : (s.receivedReply n bytes).results = s.results :=
  State.takeAnswer_results ..
@[simp] theorem State.receivedReply_refused : (s.receivedReply n bytes).refused = s.refused :=
  State.takeAnswer_refused ..
@[simp] theorem State.receivedReply_fault : (s.receivedReply n bytes).fault = s.fault :=
  State.takeAnswer_fault ..
@[simp] theorem State.receivedReply_params : (s.receivedReply n bytes).params = s.params :=
  State.takeAnswer_params ..
@[simp] theorem State.receivedReply_portId : (s.receivedReply n bytes).portId = s.portId :=
  State.takeAnswer_portId ..
@[simp] theorem State.receivedReply_host : (s.receivedReply n bytes).host = s.host :=
  State.takeAnswer_host ..
@[simp] theorem State.receivedReply_replies : (s.receivedReply n bytes).replies = s.replies :=
  State.takeAnswer_replies ..

end

/-! The host's side. -/

/-- What no command writes: the voltage operands and the model's own fields of the host's side
(R40). -/
def HostSideKept (s t : State) : Prop :=
  t.vin = s.vin ∧ t.vrefIn = s.vrefIn ∧ t.host = s.host ∧ t.replies = s.replies ∧
    t.params = s.params ∧ t.portId = s.portId

/-- A read keeps the registers it does not name: of the session registers it writes the caches
alone. -/
theorem ReadEnds.frame {u : State} {n : Nat} (h : ReadEnds u n t) :
    HostSideKept u t ∧ t.session = u.session ∧ t.cb = u.cb ∧ t.vref = u.vref := by
  cases h <;> simp [HostSideKept, State.finishWith]

theorem CommandEnds.hostSideKept (h : CommandEnds s i t) : HostSideKept s t := by
  cases h with
  | init _ h => cases h <;> simp [HostSideKept, State.composed, State.probing]
  | write _ _ h => cases h <;> simp [HostSideKept, State.dacReady]
  | readChannel _ _ _ h | readAll _ _ h => exact h.frame.left
  | _ => exact ⟨rfl, rfl, rfl, rfl, rfl, rfl⟩

/-- A host read changes a mark or the replies (R54). -/
theorem hostRead_cases (s : State) (index : Byte) (w : Width) :
    (∃ r, hostRead s index w = s.refuse r) ∨ (∃ f, hostRead s index w = s.faultAt f) ∨
      ∃ v, hostRead s index w = s.reply v := by
  unfold hostRead
  split
  · exact .inl ⟨_, rfl⟩
  · split
    · exact .inl ⟨_, rfl⟩
    · split
      · exact .inl ⟨_, rfl⟩
      · split
        · exact .inr (.inl ⟨_, rfl⟩)
        · exact .inr (.inr ⟨_, rfl⟩)

theorem hostWrite_vin (s : State) (q : Volt) :
    hostWrite s 0x01 (.volt q) = .next { s with vin := some q } := rfl

theorem hostWrite_vrefIn (s : State) (q : Volt) :
    hostWrite s 0x02 (.volt q) = .next { s with vrefIn := some q } := rfl

/-- Settles O47: a host read sets a mark or replies, and no update a command makes writes VIN or
VREF_IN. -/
theorem commandsKeepHostOperands : Obligations.CommandsKeepHostOperands := by
  unfold Obligations.CommandsKeepHostOperands
  refine ⟨fun s q => ⟨hostWrite_vin s q, hostWrite_vrefIn s q⟩, fun s index w => ?read,
    fun i s t h => (exec_ends h).hostSideKept⟩
  case read =>
    obtain ⟨r, hr⟩ | ⟨f, hf⟩ | ⟨v, hv⟩ := hostRead_cases s index w
    · rw [hr]; exact ⟨rfl, rfl⟩
    · rw [hf]; exact ⟨rfl, rfl⟩
    · rw [hv]; exact ⟨rfl, rfl⟩

/-! SESSION. -/

/-- SESSION is kept, or set by an INIT that ended OK (R25). -/
theorem CommandEnds.session_cases (h : CommandEnds s i t) :
    t.session = s.session ∨ (t.session = .ready ∧ i.mnemonic = .init ∧ t.status = some .ok) := by
  cases h with
  | init _ h =>
    cases h with
    | good => exact .inr ⟨rfl, rfl, rfl⟩
    | _ => exact .inl (by simp [State.composed, State.probing])
  | write _ _ h => cases h <;> exact .inl rfl
  | readChannel _ _ _ h | readAll _ _ h =>
    obtain ⟨-, hsession, -⟩ := h.frame
    exact .inl hsession
  | _ => exact .inl rfl

/-- Settles O50: only a good INIT writes SESSION, and it writes Ready. -/
theorem sessionTransitions : Obligations.SessionTransitions := by
  unfold Obligations.SessionTransitions
  intro i s t h
  obtain kept | ⟨ready, init, ok⟩ := (exec_ends h).session_cases
  · exact ⟨kept.trans, fun hu hr => nomatch hu.symm.trans (kept.symm.trans hr)⟩
  · exact ⟨fun _ => ready, fun _ _ => ⟨init, ok⟩⟩

/-! STATUS. -/

/-- The row of the table of R171 for the command. -/
def StatusRow (i : Instr) (s t : State) : Prop :=
  t.status = s.status ∨ t.status = some .ok ∨
    (t.status = some .deviceNotReady ∧ i.mnemonic = .init) ∨
    (t.status = some .busTransferFailed ∧ i.mnemonic.cls = .session) ∨
    (t.status = some .invalidChannel ∧ ChecksChannel i)

theorem StatusRow.kept (h : t.status = s.status) : StatusRow i s t := .inl h

theorem StatusRow.ok (h : t.status = some .ok) : StatusRow i s t := .inr (.inl h)

theorem StatusRow.notReady (h : t.status = some .deviceNotReady) (hi : i.mnemonic = .init) :
    StatusRow i s t := .inr (.inr (.inl ⟨h, hi⟩))

theorem StatusRow.failed (h : t.status = some .busTransferFailed)
    (hi : i.mnemonic.cls = .session) : StatusRow i s t := .inr (.inr (.inr (.inl ⟨h, hi⟩)))

theorem StatusRow.invalidChannel (h : t.status = some .invalidChannel) (hi : ChecksChannel i) :
    StatusRow i s t := .inr (.inr (.inr (.inr ⟨h, hi⟩)))

theorem WritesDac.cls (h : WritesDac i) : i.mnemonic.cls = .session := by
  obtain hi | hi := h <;> rw [hi] <;> rfl

theorem ReadsOne.cls (h : ReadsOne i) : i.mnemonic.cls = .session := by
  obtain hi | hi := h <;> rw [hi] <;> rfl

theorem ReadsAll.cls (h : ReadsAll i) : i.mnemonic.cls = .session := by
  obtain hi | hi := h <;> rw [hi] <;> rfl

/-- A read of a session command ends OK, fails on the bus, or leaves STATUS (R137). -/
theorem ReadEnds.statusRow {u : State} {n : Nat} (h : ReadEnds u n t)
    (hi : i.mnemonic.cls = .session) : StatusRow i u t := by
  cases h with
  | failedTx | failedRx => exact .failed rfl hi
  | good => exact .ok rfl
  | silentTx | silentRx => exact .kept rfl
  | unwritten | nonPositive => exact .kept (by simp)

/-- Every command keeps to its row of the table of R171. -/
theorem CommandEnds.statusRow (h : CommandEnds s i t) : StatusRow i s t := by
  cases h with
  | gated | unwritten | nonPositive => exact .kept rfl
  | invalidChannel hi => exact .invalidChannel rfl hi
  | computed => exact .ok rfl
  | init _ h =>
    cases h with
    | silentProbe | silentTx => exact .kept (by simp [State.composed, State.probing])
    | notReady => exact .notReady rfl rfl
    | failedTx => exact .failed rfl rfl
    | good => exact .ok rfl
  | write hi _ h =>
    cases h with
    | silent => exact .kept (by simp [State.dacReady])
    | failed => exact .failed rfl hi.cls
    | good => exact .ok rfl
  | readChannel hi _ _ h => exact h.statusRow hi.cls
  | readAll hi _ h => exact h.statusRow hi.cls

/-- Settles O53: each end of a command writes the STATUS its row allows, or none. -/
theorem statusPerCommand : Obligations.StatusPerCommand := by
  unfold Obligations.StatusPerCommand
  exact fun i s t h => (exec_ends h).statusRow

/-! CB. -/

/-- What a command may do to the control byte (R160). -/
inductive CbWrite (policy : ReinitPolicy) (cb : Byte) : Instr → Byte → Prop where
  | kept {i : Instr} : CbWrite policy cb i cb
  | composed (b : Byte) (a : Nibble) :
      CbWrite policy cb (.init b a) (initCompose policy cb (enableDacArg b) (modeArg a))
  | dacEnabled {i : Instr} (hi : WritesDac i) : CbWrite policy cb i (fnEnableDac cb true)
  | channelSet {i : Instr} {a : Nibble} {cb' : Byte} (hi : ReadsOne i)
      (h : fnSetChannel cb a = .ok cb') : CbWrite policy cb i cb'
  | aiCleared {i : Instr} (hi : ReadsAll i) : CbWrite policy cb i (fnClearAi cb)

theorem ReadEnds.cb_eq {u : State} {n : Nat} (h : ReadEnds u n t) : t.cb = u.cb := by
  obtain ⟨-, -, hcb, -⟩ := h.frame
  exact hcb

/-- INIT composes CB after the probe answered ready (R147). -/
theorem InitEnds.cb_cases {b : Byte} {a : Nibble} {r : Volt} (h : InitEnds s b a r t) :
    t.cb = s.cb ∨
      t.cb = initCompose s.params.reinitPolicy s.cb (enableDacArg b) (modeArg a) := by
  cases h with
  | silentProbe | notReady => exact .inl (by simp [State.probing])
  | silentTx | failedTx | good => exact .inr (by simp [State.composed])

theorem DacEnds.cb_eq {code : Byte} (h : DacEnds s code t) : t.cb = fnEnableDac s.cb true := by
  cases h <;> simp [State.dacReady]

theorem CommandEnds.cbWrite (h : CommandEnds s i t) :
    CbWrite s.params.reinitPolicy s.cb i t.cb := by
  cases h with
  | gated | unwritten | nonPositive | invalidChannel | computed => exact .kept
  | init _ h =>
    obtain hcb | hcb := h.cb_cases
    · exact hcb ▸ .kept
    · exact hcb ▸ .composed ..
  | write hi _ h => exact h.cb_eq ▸ .dacEnabled hi
  | readChannel hi _ hcb h => exact h.cb_eq ▸ .channelSet hi hcb
  | readAll hi _ h => exact h.cb_eq ▸ .aiCleared hi

theorem initCompose_autoIncrement {policy : ReinitPolicy} {cb : Byte} {en : Bool}
    {mode : BitVec 2} (h : (fnDecode (initCompose policy cb en mode)).autoIncrement = true) :
    (fnDecode cb).autoIncrement = true := by
  cases policy with
  | zero =>
    rw [initCompose_zero, fnDecode_compose] at h
    exact nomatch h
  | preserve =>
    change (fnDecode (fnEnableDac (fnSetInputMode cb _) en)).autoIncrement = true at h
    rw [fnDecode_enableDac, fnDecode_setInputMode] at h
    exact h

/-- Settles O51: each write of CB is by a setter, which leaves the fields that are not its own, or
by INIT. -/
theorem controlBytePersists : Obligations.ControlBytePersists := by
  unfold Obligations.ControlBytePersists
  intro i s t h
  have write := (exec_ends h).cbWrite
  generalize t.cb = cb at write ⊢
  cases write with
  | kept => exact ⟨fun _ => rfl, fun _ _ _ => rfl, fun _ => id, id⟩
  | composed b a =>
    exact ⟨fun hi => absurd rfl hi, fun hi => absurd rfl hi, fun hi => absurd rfl hi,
      initCompose_autoIncrement⟩
  | dacEnabled hi =>
    rw [fnDecode_enableDac]
    exact ⟨fun _ => rfl, fun _ _ _ => rfl, fun _ _ => rfl, id⟩
  | channelSet hi hcb =>
    rw [fnDecode_setChannel hcb]
    exact ⟨fun _ => rfl, fun _ raw volt => absurd hi (not_or.mpr ⟨raw, volt⟩), fun _ => id, id⟩
  | aiCleared hi =>
    rw [fnDecode_clearAi]
    exact ⟨fun _ => rfl, fun _ _ _ => rfl, fun _ => id, nofun⟩

end Sys2Proof.Machine
end

section
/-! The bus events of one command (spec/42_sequencer.md R141), and the pure commands
(spec/30_encoding.md R92). -/

namespace Sys2Proof.Machine

variable {i : Instr} {s t : State} {n : Nat} {cb : Byte} {dac : Option Byte} {evs : List BusEvent}

/-- The command reads `n` bytes (R131). -/
def ReadsBytes (i : Instr) (n : Nat) : Prop := (ReadsOne i ∧ n = 2) ∨ (ReadsAll i ∧ n = 5)

/-- The rows of the table of R141: the events a command may append to TRACE where it leaves `cb` in
CB and `dac` in DAC_DATA. -/
inductive CommandEvents (cb : Byte) (dac : Option Byte) : Instr → List BusEvent → Prop where
  | none {i : Instr} : CommandEvents cb dac i []
  | probe {b : Byte} {a : Nibble} (ready : Bool) :
      CommandEvents cb dac (.init b a) [.probe Config.devAddr ready]
  | init {b : Byte} {a : Nibble} (ok : Bool) :
      CommandEvents cb dac (.init b a)
        [.probe Config.devAddr true, .tx Config.devAddr [cb] ok]
  | write {i : Instr} {d : Byte} (hi : WritesDac i) (hd : dac = some d) (ok : Bool) :
      CommandEvents cb dac i [.tx Config.devAddr [cb, d] ok]
  | command {i : Instr} {n : Nat} (hi : ReadsBytes i n) (ok : Bool) :
      CommandEvents cb dac i [.tx Config.devAddr [cb] ok]
  | read {i : Instr} {n : Nat} (hi : ReadsBytes i n) (answer : Option (Vector Byte n)) :
      CommandEvents cb dac i
        [.tx Config.devAddr [cb] true, .rx Config.devAddr n (answer.map Vector.toList)]

@[simp] theorem State.sent_trace (s : State) :
    s.sent.trace = s.trace ++ [.tx Config.devAddr [s.cb] true] := rfl

@[simp] theorem State.receivedReply_trace (s : State) (n : Nat) (bytes : List Byte) :
    (s.receivedReply n bytes).trace =
      s.trace ++ [.tx Config.devAddr [s.cb] true, .rx Config.devAddr n (some bytes)] := by
  simp [State.receivedReply]

theorem ReadEnds.events (h : ReadEnds s n t) (hi : ReadsBytes i n) :
    ∃ evs, t.trace = s.trace ++ evs ∧ CommandEvents s.cb dac i evs := by
  cases h with
  | silentTx => exact ⟨[], by simp, .none⟩
  | failedTx => exact ⟨_, by simp, .command hi false⟩
  | silentRx => exact ⟨_, by simp, .command hi true⟩
  | failedRx => exact ⟨_, by simp, .read hi none⟩
  | unwritten bytes | nonPositive bytes => exact ⟨_, by simp, .read hi (some bytes)⟩
  | good bytes raw conv r => exact ⟨_, by simp [State.finishWith], .read hi (some bytes)⟩

theorem InitEnds.events {b : Byte} {a : Nibble} {r : Volt} (h : InitEnds s b a r t) :
    ∃ evs, t.trace = s.trace ++ evs ∧ CommandEvents t.cb dac (.init b a) evs := by
  cases h with
  | silentProbe => exact ⟨[], by simp [State.probing], .none⟩
  | notReady => exact ⟨_, by simp [State.probing], .probe false⟩
  | silentTx => exact ⟨_, by simp [State.probing, State.composed], .probe true⟩
  | failedTx => exact ⟨_, by simp [State.probing, State.composed], .init false⟩
  | good => exact ⟨_, by simp [State.probing, State.composed], .init true⟩

theorem DacEnds.events {code : Byte} (h : DacEnds s code t) (hi : WritesDac i) :
    ∃ evs, t.trace = s.trace ++ evs ∧ CommandEvents t.cb t.dacData i evs := by
  cases h with
  | silent => exact ⟨[], by simp [State.dacReady], .none⟩
  | failed => exact ⟨_, by simp [State.dacReady], .write hi rfl false⟩
  | good => exact ⟨_, by simp [State.dacReady], .write hi rfl true⟩

/-- Every command appends one of its rows to TRACE (R141). -/
theorem CommandEnds.events (h : CommandEnds s i t) :
    ∃ evs, t.trace = s.trace ++ evs ∧ CommandEvents t.cb t.dacData i evs := by
  cases h with
  | gated | unwritten | nonPositive | invalidChannel | computed =>
    exact ⟨[], (List.append_nil _).symm, .none⟩
  | init _ h => exact h.events
  | write hi _ h => exact h.events hi
  | readChannel hi _ _ h => exact h.cb_eq ▸ h.events (.inl ⟨hi, rfl⟩)
  | readAll hi _ h => exact h.cb_eq ▸ h.events (.inr ⟨hi, rfl⟩)

/-! The groups of commands as a case analysis. -/

theorem WritesDac.elim {P : Instr → Prop} (h : WritesDac i) (raw : ∀ code, P (.writeRaw code))
    (volt : P .writeVoltage) : P i := by
  cases i with
  | writeRaw code => exact raw code
  | writeVoltage => exact volt
  | _ => obtain h | h := h <;> exact nomatch h

theorem ReadsOne.elim {P : Instr → Prop} (h : ReadsOne i) (raw : ∀ a, P (.readChannelRaw a))
    (volt : ∀ a, P (.readChannelVoltage a)) : P i := by
  cases i with
  | readChannelRaw a => exact raw a
  | readChannelVoltage a => exact volt a
  | _ => obtain h | h := h <;> exact nomatch h

theorem ReadsAll.elim {P : Instr → Prop} (h : ReadsAll i) (raw : P .readAllRaw)
    (volt : P .readAllVoltage) : P i := by
  cases i with
  | readAllRaw => exact raw
  | readAllVoltage => exact volt
  | _ => obtain h | h := h <;> exact nomatch h

/-- The row of the table of R141 for the command, as the obligation states it. -/
def EventRow (t : State) (evs : List BusEvent) : Instr → Prop
  | .init _ _ =>
    evs = [] ∨ (∃ ready, evs = [.probe 0x48 ready]) ∨
      ∃ ok, evs = [.probe 0x48 true, .tx 0x48 [t.cb] ok]
  | .writeRaw _ | .writeVoltage =>
    evs = [] ∨ ∃ d ok, t.dacData = some d ∧ evs = [.tx 0x48 [t.cb, d] ok]
  | .readChannelRaw _ | .readChannelVoltage _ =>
    evs = [] ∨ (∃ ok, evs = [.tx 0x48 [t.cb] ok]) ∨
      ∃ ans, evs = [.tx 0x48 [t.cb] true, .rx 0x48 2 ans]
  | .readAllRaw | .readAllVoltage =>
    evs = [] ∨ (∃ ok, evs = [.tx 0x48 [t.cb] ok]) ∨
      ∃ ans, evs = [.tx 0x48 [t.cb] true, .rx 0x48 5 ans]
  | _ => evs = []

theorem CommandEvents.eventRow (h : CommandEvents t.cb t.dacData i evs) : EventRow t evs i := by
  cases h with
  | none =>
    cases i with
    | init | writeRaw | writeVoltage | readChannelRaw | readChannelVoltage | readAllRaw
    | readAllVoltage => exact .inl rfl
    | _ => rfl
  | probe ready => exact .inr (.inl ⟨ready, rfl⟩)
  | init ok => exact .inr (.inr ⟨ok, rfl⟩)
  | write hi hd ok =>
    exact hi.elim (fun _ => .inr ⟨_, ok, hd, rfl⟩) (.inr ⟨_, ok, hd, rfl⟩)
  | command hi ok =>
    obtain ⟨hi, rfl⟩ | ⟨hi, rfl⟩ := hi
    · exact hi.elim (fun _ => .inr (.inl ⟨ok, rfl⟩)) fun _ => .inr (.inl ⟨ok, rfl⟩)
    · exact hi.elim (.inr (.inl ⟨ok, rfl⟩)) (.inr (.inl ⟨ok, rfl⟩))
  | read hi answer =>
    obtain ⟨hi, rfl⟩ | ⟨hi, rfl⟩ := hi
    · exact hi.elim (fun _ => .inr (.inr ⟨_, rfl⟩)) fun _ => .inr (.inr ⟨_, rfl⟩)
    · exact hi.elim (.inr (.inr ⟨_, rfl⟩)) (.inr (.inr ⟨_, rfl⟩))

/-- Settles O52: the events of each end of a command are a row of the table, and a transmit sends
the CB that the end holds. -/
theorem commandBusEvents : Obligations.CommandBusEvents := by
  unfold Obligations.CommandBusEvents
  intro i s t h
  obtain ⟨evs, htrace, hevs⟩ := (exec_ends h).events
  refine ⟨evs, htrace, ?_⟩
  have row := hevs.eventRow
  cases i <;> exact row

/-! Pure commands. -/

/-- How a pure command ends. -/
inductive PureEnd where
  | result (r : Results)
  | error (e : CmdError)
  | unwritten
  | nonPositive

/-- The next state of a pure command that ends so, the results already cleared (R91). -/
def PureEnd.apply (s : State) : PureEnd → State
  | .result r => s.finishWith r
  | .error e => s.raise e
  | .unwritten => (s.faultAt .readUnwritten).idleSeq
  | .nonPositive => (s.refuse .nonPositiveReference).idleSeq

/-- A read of one reference in two states ends alike in both. -/
theorem withReference_pureEnd (s t : State) (ref : Option Volt) (f : Volt → Results) :
    ∃ e : PureEnd, withReference s ref (fun r => s.finishWith (f r)) = e.apply s ∧
      withReference t ref (fun r => t.finishWith (f r)) = e.apply t := by
  cases ref with
  | none => exact ⟨.unwritten, rfl, rfl⟩
  | some r =>
    by_cases hr : r ≤ 0
    · exact ⟨.nonPositive, withReference_nonpos hr .., withReference_nonpos hr ..⟩
    · have pos := not_le.mp hr
      exact ⟨.result (f r), withReference_pos pos .., withReference_pos pos ..⟩

/-- A pure command ends alike in two states that agree on VIN, VREF_IN and the parameters (R92). -/
theorem exec_pureEnd (hi : i.mnemonic.cls = .pure) (vin : t.vin = s.vin)
    (vrefIn : t.vrefIn = s.vrefIn) (params : t.params = s.params) :
    ∃ e : PureEnd, exec i s = .next (e.apply s.clearResults) ∧
      exec i t = .next (e.apply t.clearResults) := by
  cases i with
  | crSetChannel b a =>
    by_cases ha : 3 < a
    · refine ⟨.error .invalidChannel, ?_⟩
      simp only [exec, execCrSetChannel, fnSetChannel_invalid ha]
      exact ⟨rfl, rfl⟩
    · refine ⟨.result (.ofByte (b &&& 0xFC ||| a.setWidth 8)), ?_⟩
      simp only [exec, execCrSetChannel, fnSetChannel_valid ha]
      exact ⟨rfl, rfl⟩
  | crSetInputMode | crEnableDac | crSetAi | crClearAi | crDecode => exact ⟨.result _, rfl, rfl⟩
  | convC2v b =>
    obtain ⟨e, hs, ht⟩ := withReference_pureEnd s.clearResults t.clearResults s.vrefIn
      fun r => .ofVolt (codeToVoltage b r)
    rw [← vrefIn] at ht
    exact ⟨e, congrArg _ hs, congrArg _ ht⟩
  | convV2c =>
    cases hv : s.vin with
    | none =>
      exact ⟨.unwritten, congrArg _ (withVin_none (s := s.clearResults) hv _),
        congrArg _ (withVin_none (s := t.clearResults) (vin.trans hv) _)⟩
    | some v =>
      obtain ⟨e, hs, ht⟩ := withReference_pureEnd s.clearResults t.clearResults s.vrefIn
        fun r => .ofByte (voltageToCode s.params.roundMode v r)
      rw [← vrefIn, ← params] at ht
      exact ⟨e, congrArg _ ((withVin_some (s := s.clearResults) hv _).trans hs),
        congrArg _ ((withVin_some (s := t.clearResults) (vin.trans hv) _).trans ht)⟩
  | _ => exact nomatch hi

/-- Settles O48: the end of a pure command depends on VIN, VREF_IN and the parameters alone, and no
such end writes a session register or TRACE. -/
theorem pureCommandsTouchNoSession : Obligations.PureCommandsTouchNoSession := by
  unfold Obligations.PureCommandsTouchNoSession
  intro i s t hi h
  refine ⟨?session, fun s' t' vin vrefIn params hr hf hr' hf' h' => ?same⟩
  case session =>
    obtain ⟨e, hs, -⟩ := exec_pureEnd (t := s) hi rfl rfl rfl
    obtain rfl := Host.Outcome.next.inj (h.symm.trans hs)
    cases e <;> exact ⟨rfl, rfl, rfl, rfl, rfl, rfl, rfl, rfl, rfl⟩
  case same =>
    obtain ⟨e, hs, hs'⟩ := exec_pureEnd hi vin vrefIn params
    obtain rfl := Host.Outcome.next.inj (h.symm.trans hs)
    obtain rfl := Host.Outcome.next.inj (h'.symm.trans hs')
    cases e with
    | result | error => exact ⟨rfl, hr'.trans hr.symm, hf'.trans hf.symm, fun _ _ => ⟨rfl, nofun⟩⟩
    | unwritten => exact ⟨rfl, hr'.trans hr.symm, rfl, nofun⟩
    | nonPositive => exact ⟨rfl, rfl, hf'.trans hf.symm, nofun⟩

end Sys2Proof.Machine
end

section
/-! Host accesses and steps (spec/20_memory.md R54, R55; spec/30_encoding.md R93). -/

namespace Sys2Proof.Machine

variable {s t : State}

/-! What one access can do. -/

/-- The ends of one host access. -/
inductive AccessEnds (s : State) : State → Prop where
  | refused (r : Refusal) : AccessEnds s (s.refuse r)
  | faulted (f : Fault) : AccessEnds s (s.faultAt f)
  | replied (v : HostValue) : AccessEnds s (s.reply v)
  | vin (q : Volt) : AccessEnds s (s.setVin q)
  | vrefIn (q : Volt) : AccessEnds s (s.setVrefIn q)
  | command {i : Instr} {t : State} (h : exec i s = .next t) : AccessEnds s t

theorem issue_ends {w : Word} (h : issue w s = .next t) : AccessEnds s t := by
  unfold issue at h
  split at h
  · exact .command h
  · exact next_elim h (.refused _)

theorem hostRead_ends (s : State) (index : Byte) (w : Width) :
    AccessEnds s (hostRead s index w) := by
  obtain ⟨r, hr⟩ | ⟨f, hf⟩ | ⟨v, hv⟩ := hostRead_cases s index w
  · exact hr ▸ .refused r
  · exact hf ▸ .faulted f
  · exact hv ▸ .replied v

theorem hostWrite_ends {index : Byte} {v : HostValue} (h : hostWrite s index v = .next t) :
    AccessEnds s t := by
  unfold hostWrite at h
  split at h
  · exact next_elim h (.refused _)
  · split at h
    · exact next_elim h (.refused _)
    · unfold writeReg at h
      split at h
      · exact issue_ends h
      · exact next_elim h (.vin _)
      · exact next_elim h (.vrefIn _)
      · exact next_elim h (.refused _)

/-- Everything one host access can do. -/
theorem access_ends {a : HostAccess} (h : access s a = .next t) : AccessEnds s t := by
  cases a with
  | read index w => exact next_elim h (hostRead_ends s index w)
  | write index v => exact hostWrite_ends h

/-! One step. -/

theorem step_of_fault {f : Fault} (h : s.fault = some f) : step s = .fault f := by
  simp only [step, stepState, h]

theorem step_of_refused {r : Refusal} (hf : s.fault = none) (h : s.refused = some r) :
    step s = .refused r := by
  simp only [step, stepState, hf, h]

/-- An unmarked state with no command in flight makes the host's next access. -/
theorem step_of_idle (hf : s.fault = none) (hr : s.refused = none) (hs : s.seq = .idle) :
    step s = nextAccess s := by
  simp only [step, stepState, hf, hr, hs, if_true]

theorem step_of_waiting (hf : s.fault = none) (hr : s.refused = none) (hs : s.seq ≠ .idle) :
    step s = .fault .portNeverAnswers := by
  simp only [step, stepState, hf, hr, hs, if_false]

/-- A step from a state whose next access is `a` is that access, taken (R93). -/
theorem step_of_host {a : HostAccess} {rest : List HostAccess} (hf : s.fault = none)
    (hr : s.refused = none) (hs : s.seq = .idle) (hh : s.host = a :: rest) :
    step s = access (s.setHost rest) a := by
  rw [step_of_idle hf hr hs, nextAccess, hh]

theorem step_of_no_host (hf : s.fault = none) (hr : s.refused = none) (hs : s.seq = .idle)
    (hh : s.host = []) : step s = .next s := by
  rw [step_of_idle hf hr hs, nextAccess, hh]

/-- Everything a step with a next state can do: it starts unmarked and idle, and makes the host's
next access, if it has one. -/
theorem step_cases (h : step s = .next t) :
    s.fault = none ∧ s.refused = none ∧ s.seq = .idle ∧
      ((s.host = [] ∧ t = s) ∨
        ∃ a rest, s.host = a :: rest ∧ AccessEnds (s.setHost rest) t) := by
  cases hf : s.fault with
  | some f => exact nomatch (step_of_fault hf).symm.trans h
  | none =>
    cases hr : s.refused with
    | some r => exact nomatch (step_of_refused hf hr).symm.trans h
    | none =>
      by_cases hs : s.seq = .idle
      · refine ⟨rfl, rfl, hs, ?_⟩
        cases hh : s.host with
        | nil =>
          rw [step_of_no_host hf hr hs hh] at h
          exact .inl ⟨rfl, (Host.Outcome.next.inj h).symm⟩
        | cons a rest =>
          rw [step_of_host hf hr hs hh] at h
          exact .inr ⟨a, rest, rfl, access_ends h⟩
      · exact nomatch (step_of_waiting hf hr hs).symm.trans h

/-- Settles O41: the marks are tested first, and with no access left the state stays. -/
theorem markedRunStops : Obligations.MarkedRunStops := by
  unfold Obligations.MarkedRunStops
  exact ⟨fun _ _ => step_of_fault, fun _ _ => step_of_refused, fun _ => step_of_no_host⟩

/-! Issuing a command. -/

theorem issue_of_decode {w : Word} {i : Instr} (h : decode w = .ok i) (s : State) :
    issue w s = exec i s := by
  simp only [issue, h]

/-- The access that issues a word issues it (R86). -/
theorem access_issueAccess (s : State) (w : Word) : access s (issueAccess w) = issue w s :=
  hostWrite_cmd s w

/-- A table word that stands for a command decodes to it. -/
theorem decode_of_decodeTableWord {nbits w : Nat} {i : Instr}
    (h : decodeTableWord nbits w = some i) :
    decode (BitVec.ofNat 16 (w % 2 ^ nbits)) = .ok i := by
  unfold decodeTableWord at h
  split at h
  · split at h
    · exact Option.some.inj h ▸ ‹_›
    · cases h
  · cases h

/-- Settles O40: the step makes the access, which issues the word, which decodes to the command. -/
theorem stepRunsDecodedCommand : Obligations.StepRunsDecodedCommand := by
  unfold Obligations.StepRunsDecodedCommand
  refine ⟨fun s w i rest hf hr hs hh hd => ?written, fun s nbits w i hf hr hs hd => ?fetched⟩
  case written =>
    calc step s
      _ = access (s.setHost rest) (issueAccess w) := step_of_host hf hr hs hh
      _ = exec i (s.setHost rest) := (access_issueAccess ..).trans (issue_of_decode hd _)
  case fetched =>
    calc step (s.withFetchWord nbits w)
      _ = access s (issueAccess (BitVec.ofNat 16 (w % 2 ^ nbits))) := step_of_host hf hr hs rfl
      _ = exec i s :=
        (access_issueAccess ..).trans (issue_of_decode (decode_of_decodeTableWord hd) s)

/-! The checks of an access. -/

theorem hostRead_reserved {index : Byte} (h : Reg.atIndex index = none) (s : State) (w : Width) :
    hostRead s index w = s.refuse .reservedIndex := by
  simp only [hostRead, h]

theorem hostWrite_reserved {index : Byte} (h : Reg.atIndex index = none) (s : State)
    (v : HostValue) : hostWrite s index v = .next (s.refuse .reservedIndex) := by
  simp only [hostWrite, h]

theorem hostRead_width {index : Byte} {r : Reg} (h : Reg.atIndex index = some r) (s : State)
    {w : Width} (hw : w ≠ r.width) : hostRead s index w = s.refuse .widthMismatch := by
  simp only [hostRead, h, if_pos hw]

theorem hostWrite_width {index : Byte} {r : Reg} (h : Reg.atIndex index = some r) (s : State)
    {v : HostValue} (hv : v.width ≠ r.width) :
    hostWrite s index v = .next (s.refuse .widthMismatch) := by
  simp only [hostWrite, h, if_pos hv]

theorem hostWrite_of_width {index : Byte} {r : Reg} (h : Reg.atIndex index = some r) (s : State)
    {v : HostValue} (hv : v.width = r.width) : hostWrite s index v = writeReg s r v := by
  simp only [hostWrite, h, hv, ne_eq, not_true_eq_false, if_false]

/-- A legal access of a read-only register is a refused write (R54). -/
theorem writeReg_readOnly {r : Reg} (h : r.access = .readOnly) (s : State) (v : HostValue) :
    writeReg s r v = .next (s.refuse .readOnly) := by
  cases r with
  | cmd | vin | vrefIn => exact nomatch h
  | _ => rfl

/-- CMD is the one register that cannot be read (R53). -/
theorem access_ne_writeOnly {r : Reg} (h : r ≠ .cmd) : r.access ≠ .writeOnly := by
  cases r with
  | cmd => exact absurd rfl h
  | _ => exact nofun

theorem hostRead_value {index : Byte} {r : Reg} (h : Reg.atIndex index = some r) (hr : r ≠ .cmd)
    {v : HostValue} (hv : r.value s = some v) : hostRead s index r.width = s.reply v := by
  simp only [hostRead, h, hv, access_ne_writeOnly hr, ne_eq, not_true_eq_false, if_false]

theorem hostRead_unwritten {index : Byte} {r : Reg} (h : Reg.atIndex index = some r)
    (hr : r ≠ .cmd) (hv : r.value s = none) :
    hostRead s index r.width = s.faultAt .readUnwritten := by
  simp only [hostRead, h, hv, access_ne_writeOnly hr, ne_eq, not_true_eq_false, if_false]

/-- Settles O46: the checks in their order, each by its own branch of `hostRead` and `hostWrite`. -/
theorem hostAccessChecks : Obligations.HostAccessChecks := by
  unfold Obligations.HostAccessChecks
  exact ⟨fun s index h => ⟨hostRead_reserved h s, hostWrite_reserved h s⟩,
    fun s index r h => ⟨fun _ => hostRead_width h s, fun _ => hostWrite_width h s⟩,
    fun s => rfl,
    fun s index r v h hv ro => (hostWrite_of_width h s hv).trans (writeReg_readOnly ro s v),
    fun s index r h hr => ⟨fun _ => hostRead_value h hr, hostRead_unwritten h hr⟩,
    fun s q => ⟨hostWrite_vin s q, hostWrite_vrefIn s q⟩, hostWrite_cmd⟩

/-- Settles O44: the four codes, and a read of STATUS, which stands at index 3. -/
theorem statusEncoding : Obligations.StatusEncoding := by
  unfold Obligations.StatusEncoding
  refine ⟨rfl, rfl, rfl, rfl, fun s st h => ?_⟩
  exact hostRead_value (r := .status) (Reg.atIndex_index .status) nofun (congrArg (Option.map _) h)

/-! Frames of a step. -/

/-- Every access leaves the accesses to come, the parameters and the port, and only appends to
TRACE. -/
theorem AccessEnds.frame (h : AccessEnds s t) :
    t.host = s.host ∧ t.params = s.params ∧ t.portId = s.portId ∧
      ∃ evs, t.trace = s.trace ++ evs := by
  cases h with
  | command h =>
    obtain ⟨-, -, host, -, params, portId⟩ := (exec_ends h).hostSideKept
    obtain ⟨evs, trace, -⟩ := (exec_ends h).events
    exact ⟨host, params, portId, evs, trace⟩
  | _ => exact ⟨rfl, rfl, rfl, [], (List.append_nil _).symm⟩

/-- Every step takes the head of the host's accesses, leaves the parameters and the port, and only
appends to TRACE. -/
theorem step_frame (h : step s = .next t) :
    t.host = s.host.tail ∧ t.params = s.params ∧ t.portId = s.portId ∧
      ∃ evs, t.trace = s.trace ++ evs := by
  obtain ⟨-, -, -, ⟨hh, rfl⟩ | ⟨a, rest, hh, h⟩⟩ := step_cases h
  · exact ⟨by rw [hh, List.tail_nil], rfl, rfl, [], (List.append_nil _).symm⟩
  · obtain ⟨host, frame⟩ := h.frame
    exact ⟨by rw [host, hh, State.setHost_host, List.tail_cons], frame⟩

/-- Settles O42: no access changes the accesses to come, and each only appends to TRACE. -/
theorem stepTakesOneAccess : Obligations.StepTakesOneAccess := by
  unfold Obligations.StepTakesOneAccess
  exact fun s t => step_frame

/-! Several instances. -/

theorem stepInstance_next {ss ts : List State} {k : Nat} {hk : k < ss.length}
    (h : stepInstance ss k hk = .next ts) : ∃ t, step ss[k] = .next t ∧ ts = ss.set k t := by
  unfold stepInstance at h
  split at h
  next t hstep => exact ⟨t, hstep, (Host.Outcome.next.inj h).symm⟩
  · cases h
  · cases h

/-- Settles O59: the step replaces one entry of the list, and keeps the number of its port. -/
theorem instancesShareNothing : Obligations.InstancesShareNothing := by
  unfold Obligations.InstancesShareNothing
  refine ⟨fun n => ?own, fun ss ts k hk h => ?step⟩
  case own =>
    have ports : (newInstances n).map State.portId = List.range n := by
      rw [newInstances, List.map_map]
      exact List.map_id _
    rw [ownPorts, ports]
    exact List.nodup_range
  case step =>
    obtain ⟨t, hstep, rfl⟩ := stepInstance_next h
    obtain ⟨-, -, portId, -⟩ := step_frame hstep
    have ports : (ss.set k t).map State.portId = ss.map State.portId := by
      rw [List.map_set, portId, ← List.getElem_map State.portId (h := by simpa using hk),
        List.set_getElem_self]
    refine ⟨List.length_set, fun own => ?_, ⟨t, hstep, List.getElem?_set_self hk⟩,
      fun j hj => List.getElem?_set_ne hj.symm⟩
    rwa [ownPorts, ports]

end Sys2Proof.Machine
end

section
/-! The block invariant (spec/10_state.md R52, R32 to R38; spec/42_sequencer.md R135): what each
command keeps of it, part by part. -/

namespace Sys2Proof.Machine

variable {i : Instr} {s t : State} {n : Nat} {cb cb' : Byte} {dac : Option Byte}
  {evs : List BusEvent}

/-! CB. -/

theorem fnSetChannel_keeps {a : Nibble} (h : fnSetChannel cb a = .ok cb') :
    cb' &&& 0xFC = cb &&& 0xFC := by
  have ha : ¬ 3 < a := fun ha => nomatch (fnSetChannel_invalid ha cb).symm.trans h
  obtain rfl := Except.ok.inj ((fnSetChannel_valid ha cb).symm.trans h)
  exact setChannel_keeps cb ha

/-- No write of CB sets bit 7, 3 or 2 (R52 item 1). -/
theorem CbWrite.unused {policy : ReinitPolicy} (h : CbWrite policy cb i cb')
    (hcb : cb &&& 0x8C = 0) : cb' &&& 0x8C = 0 := by
  cases h with
  | kept => exact hcb
  | composed b a => exact (initCompose_low ..).right hcb
  | dacEnabled => exact (and_eq_of_and_eq (fnEnableDac_keeps cb true) (by decide)).trans hcb
  | channelSet _ h =>
    have keeps : cb' &&& 0xFC = cb &&& 0xFC := fnSetChannel_keeps h
    exact (and_eq_of_and_eq keeps (by decide)).trans hcb
  | aiCleared =>
    rw [fnClearAi, BitVec.and_assoc, BitVec.and_comm 0xFB, ← BitVec.and_assoc, hcb]
    exact BitVec.zero_and

/-! VREF and SESSION. -/

/-- VREF and SESSION are kept together, or VREF is written above 0 (R35, R146). -/
theorem CommandEnds.vref_cases (h : CommandEnds s i t) :
    (t.vref = s.vref ∧ t.session = s.session) ∨ ∃ r, 0 < r ∧ t.vref = some r := by
  cases h with
  | init hr h =>
    refine .inr ⟨_, hr, ?_⟩
    cases h <;> simp [State.composed, State.probing]
  | write _ _ h => cases h <;> simp [State.dacReady]
  | readChannel _ _ _ h | readAll _ _ h =>
    obtain ⟨-, session, -, vref⟩ := h.frame
    exact .inl ⟨vref, session⟩
  | _ => exact .inl ⟨rfl, rfl⟩

/-! Before the first good INIT. -/

/-- What holds before the first good INIT (R52 item 2, R145). -/
def BeforeInit (s : State) : Prop :=
  s.lastRaw = #v[0, 0, 0, 0] ∧ s.lastConv = #v[0, 0, 0, 0] ∧ s.dacData = none ∧
    s.cb &&& 0x0F = 0 ∧ s.trace.all BusEvent.ofInit = true

/-- An INIT that is not good keeps it. -/
theorem InitEnds.beforeInit {b : Byte} {a : Nibble} {r : Volt} (h : InitEnds s b a r t)
    (ht : t.session = .uninitialized) (hs : BeforeInit s) : BeforeInit t := by
  obtain ⟨raw, conv, dac, cb, trace⟩ := hs
  have composed := (initCompose_low s.params.reinitPolicy s.cb (enableDacArg b) (modeArg a)).left cb
  cases h with
  | silentProbe => exact ⟨raw, conv, dac, cb, trace⟩
  | notReady =>
    exact ⟨raw, conv, dac, cb, by simpa [State.probing, BusEvent.ofInit] using trace⟩
  | silentTx | failedTx =>
    exact ⟨raw, conv, dac, composed, by
      simpa [State.composed, State.probing, BusEvent.ofInit] using trace⟩
  | good => exact nomatch ht

/-- Every other command that is admitted before the first good INIT is pure. -/
theorem CommandEnds.beforeInit (h : CommandEnds s i t)
    (hs : s.session = .uninitialized → BeforeInit s) (ht : t.session = .uninitialized) :
    BeforeInit t := by
  have hu : s.session = .uninitialized := by
    obtain kept | ⟨ready, -⟩ := h.session_cases
    · exact kept.symm.trans ht
    · exact nomatch ready.symm.trans ht
  have ready : s.session ≠ .ready := fun hr => nomatch hu.symm.trans hr
  cases h with
  | gated | unwritten | nonPositive | invalidChannel | computed => exact hs hu
  | init _ h => exact h.beforeInit ht (hs hu)
  | write _ hr => exact absurd hr ready
  | readChannel _ hr => exact absurd hr ready
  | readAll _ hr => exact absurd hr ready

/-! TRACE. -/

/-- The events of a command are requests the block issues (R56, R62, R131). -/
theorem CommandEvents.legal (h : CommandEvents cb dac i evs) :
    evs.all BusEvent.legal = true := by
  cases h with
  | read hi answer =>
    obtain ⟨-, rfl⟩ | ⟨-, rfl⟩ := hi <;> cases answer <;> simp [BusEvent.legal]
  | _ => rfl

/-- The one receive a command issues follows its transmit, whatever stands before (R135). -/
theorem CommandEvents.readsFollow (h : CommandEvents cb dac i evs) (prev : Bool) :
    readsFollowCommand prev evs = true := by
  cases h <;> rfl

/-- Events in which each receive follows a transmit of their own may follow any TRACE. -/
theorem readsFollowCommand_append {xs ys : List BusEvent} {prev : Bool}
    (hx : readsFollowCommand prev xs = true) (hy : ∀ p, readsFollowCommand p ys = true) :
    readsFollowCommand prev (xs ++ ys) = true := by
  induction xs generalizing prev with
  | nil => exact hy prev
  | cons x xs ih =>
    obtain ⟨head, tail⟩ := Bool.and_eq_true_iff.mp hx
    exact Bool.and_eq_true_iff.mpr ⟨head, ih tail⟩

/-! Results, SEQ and the marks. -/

/-- A read ends OK, or leaves the results (R42). -/
theorem ReadEnds.results_cases (h : ReadEnds s n t) :
    t.results = s.results ∨ t.status = some .ok := by
  cases h <;> simp [State.finishWith]

/-- A command ends OK, or with its results cleared, unless the gate refused it (R42, R91). -/
theorem CommandEnds.results_cases (h : CommandEnds s i t) :
    t.results = Results.cleared ∨ t.status = some .ok ∨
      (t.results = s.results ∧ t.status = s.status) := by
  cases h with
  | gated => exact .inr (.inr ⟨rfl, rfl⟩)
  | unwritten | nonPositive | invalidChannel => exact .inl rfl
  | computed => exact .inr (.inl rfl)
  | init _ h => cases h <;> exact .inl rfl
  | write _ _ h => cases h <;> exact .inl rfl
  | readChannel _ _ _ h | readAll _ _ h => exact h.results_cases.imp_right .inl

theorem ReadEnds.seq_ne_commit (h : ReadEnds s n t) : t.seq ≠ .commit := by
  cases h <;> simp [State.sent, State.finishWith]

/-- No command ends in the phase COMMIT (R143). -/
theorem CommandEnds.seq_ne_commit (h : CommandEnds s i t) (hs : s.seq ≠ .commit) :
    t.seq ≠ .commit := by
  cases h with
  | gated => exact hs
  | init _ h => cases h <;> exact nofun
  | write _ _ h => cases h <;> exact nofun
  | readChannel _ _ _ h | readAll _ _ h => exact h.seq_ne_commit
  | _ => exact nofun

theorem ReadEnds.mark_cases (h : ReadEnds s n t) :
    t.refused = s.refused ∨ t.fault = s.fault := by
  cases h <;> simp [State.finishWith]

/-- A command sets at most one mark (R93). -/
theorem CommandEnds.mark_cases (h : CommandEnds s i t) :
    t.refused = s.refused ∨ t.fault = s.fault := by
  cases h with
  | gated | nonPositive => exact .inr rfl
  | unwritten | invalidChannel | computed => exact .inl rfl
  | init _ h => cases h <;> exact .inl rfl
  | write _ _ h => cases h <;> exact .inl rfl
  | readChannel _ _ _ h | readAll _ _ h => exact h.mark_cases

/-! The invariant over a step. -/

/-- The invariant does not speak of the host's side, and of the marks only that they are not both
set. -/
theorem BlockInv.hostSide (h : BlockInv s) {vin vrefIn : Option Volt} {host : List HostAccess}
    {replies : List HostValue} {refused : Option Refusal} {fault : Option Fault}
    (one : refused = none ∨ fault = none) :
    BlockInv { s with
      vin := vin, vrefIn := vrefIn, host := host, replies := replies, refused := refused,
      fault := fault } where
  cb_unused := h.cb_unused
  before_init := h.before_init
  vref_pos := h.vref_pos
  ready_vref := h.ready_vref
  cache_converted := h.cache_converted
  trace_legal := h.trace_legal
  reads_follow := h.reads_follow
  results_ok := h.results_ok
  seq_waits := h.seq_waits
  one_mark := one

/-- A command keeps the invariant from every unmarked state. -/
theorem exec_keeps_inv (inv : BlockInv s) (hr : s.refused = none) (hf : s.fault = none)
    (h : exec i s = .next t) : BlockInv t := by
  have ends := exec_ends h
  obtain ⟨evs, trace, hevs⟩ := ends.events
  exact {
    cb_unused := ends.cbWrite.unused inv.cb_unused
    before_init := ends.beforeInit inv.before_init
    vref_pos := fun r hv => by
      obtain ⟨vref, -⟩ | ⟨r', hr', vref⟩ := ends.vref_cases
      · exact inv.vref_pos r (vref.symm.trans hv)
      · obtain rfl := Option.some.inj (vref.symm.trans hv)
        exact hr'
    ready_vref := fun ready => by
      obtain ⟨vref, session⟩ | ⟨r, -, vref⟩ := ends.vref_cases
      · exact vref ▸ inv.ready_vref (session.symm.trans ready)
      · exact vref ▸ rfl
    cache_converted := fun c => by
      obtain ⟨raw, conv⟩ | ⟨-, -, -, -, r, -, hv, conv⟩ := exec_cacheRule h c
      · obtain ⟨r, pos, old⟩ := inv.cache_converted c
        exact ⟨r, pos, by rw [raw, conv, old]⟩
      · exact ⟨r, inv.vref_pos r hv, conv⟩
    trace_legal := by rw [trace, List.all_append, inv.trace_legal, hevs.legal]; rfl
    reads_follow := trace ▸ readsFollowCommand_append inv.reads_follow hevs.readsFollow
    results_ok := by
      obtain cleared | ok | ⟨results, status⟩ := ends.results_cases
      · exact .inl cleared
      · exact .inr ok
      · exact results ▸ status ▸ inv.results_ok
    seq_waits := ends.seq_ne_commit inv.seq_waits
    one_mark := ends.mark_cases.imp (·.trans hr) (·.trans hf) }

/-- A host access keeps the invariant from every unmarked state. -/
theorem AccessEnds.keeps_inv (h : AccessEnds s t) (inv : BlockInv s) (hr : s.refused = none)
    (hf : s.fault = none) : BlockInv t := by
  cases h with
  | refused r => exact inv.hostSide (.inr hf)
  | faulted f => exact inv.hostSide (.inl hr)
  | replied | vin | vrefIn => exact inv.hostSide (.inl hr)
  | command h => exact exec_keeps_inv inv hr hf h

theorem step_keeps_inv (inv : BlockInv s) (h : step s = .next t) : BlockInv t := by
  obtain ⟨hf, hr, -, ⟨-, rfl⟩ | ⟨a, rest, -, h⟩⟩ := step_cases h
  · exact inv
  · exact h.keeps_inv (inv.hostSide (.inl hr)) hr hf

/-- Settles O56: a step is one access from an unmarked state, and each part of the invariant is kept
by every end of the access. -/
theorem stepKeepsInvariant : Obligations.StepKeepsInvariant := by
  unfold Obligations.StepKeepsInvariant
  exact fun s t => step_keeps_inv

theorem getElem_const {α : Type} (a : α) (c : Channel) : #v[a, a, a, a][c] = a :=
  match c with
  | 0 | 1 | 2 | 3 => rfl

theorem codeToVoltage_zero (r : Volt) : codeToVoltage 0 r = 0 :=
  (codeToVoltageFunction.right r).left

theorem reset_inv : BlockInv State.reset where
  cb_unused := rfl
  before_init := fun _ => ⟨rfl, rfl, rfl, rfl, rfl⟩
  vref_pos := nofun
  ready_vref := nofun
  cache_converted := fun c => ⟨1, one_pos, by
    rw [State.reset, getElem_const, getElem_const]
    exact (codeToVoltage_zero 1).symm⟩
  trace_legal := rfl
  reads_follow := rfl
  results_ok := .inl rfl
  seq_waits := nofun
  one_mark := .inl rfl

theorem load_inv (inv : BlockInv s) (p : Params) (portId : Nat) (port : List (Option PortAnswer))
    (program : List HostAccess) : BlockInv (s.load p portId port program) :=
  ⟨inv.cb_unused, inv.before_init, inv.vref_pos, inv.ready_vref, inv.cache_converted,
    inv.trace_legal, inv.reads_follow, inv.results_ok, inv.seq_waits, inv.one_mark⟩

/-- Settles O57: the invariant holds of the reset registers, and speaks of nothing a run loads. -/
theorem resetMeetsInvariant : Obligations.ResetMeetsInvariant := by
  unfold Obligations.ResetMeetsInvariant
  exact load_inv reset_inv

/-- Every reachable state meets the invariant. -/
theorem Reachable.inv (h : Reachable s) : BlockInv s := by
  induction h with
  | start p portId port program => exact load_inv reset_inv p portId port program
  | step _ h ih => exact step_keeps_inv ih h

/-- Settles O58: the three items are parts of the invariant. -/
theorem reachableStates : Obligations.ReachableStates := by
  unfold Obligations.ReachableStates
  intro s h _ _
  have inv := h.inv
  have bit (j : Nat) (hj : (0x8C : Byte).getLsbD j = true) : s.cb.getLsbD j = false := by
    have hbit : (s.cb &&& 0x8C).getLsbD j = (0#8).getLsbD j :=
      congrArg (BitVec.getLsbD · j) inv.cb_unused
    rwa [BitVec.getLsbD_and, hj, Bool.and_true, BitVec.getLsbD_zero] at hbit
  refine ⟨⟨bit 7 rfl, bit 3 rfl, bit 2 rfl⟩, fun hu => ?_, inv.cache_converted⟩
  obtain ⟨raw, conv, dac, -, trace⟩ := inv.before_init hu
  refine ⟨List.all_eq_true.mp trace, dac, fun c => ?_⟩
  rw [raw, conv]
  exact ⟨getElem_const 0 c, getElem_const 0 c⟩

end Sys2Proof.Machine
end

section
/-! Round trips and monotonicity of the converter (spec/41_conversion.md R119 to R121). -/

namespace Sys2Proof.Machine

/-- A code's voltage lies between 0 and the reference. -/
theorem codeToVoltage_mem (c : Byte) {r : Volt} (hr : 0 < r) :
    0 ≤ codeToVoltage c r ∧ codeToVoltage c r ≤ r := by
  have code : (c.toNat : Volt) ≤ 255 := by exact_mod_cast Nat.le_of_lt_succ c.isLt
  rw [codeToVoltage_eq]
  constructor
  · positivity
  · rw [div_le_iff₀ (by norm_num), mul_comm]
    exact mul_le_mul_of_nonneg_left code hr.le

/-- Settles O23: a code's voltage is not clamped, and its scaled value is the code. -/
theorem codeRoundTrip : Obligations.CodeRoundTrip := by
  unfold Obligations.CodeRoundTrip
  intro m c r hr
  obtain ⟨lower, upper⟩ := codeToVoltage_mem c hr
  refine voltageToCode_eq_of_scaled hr ?_ m
  rw [clampVolt_of_mem lower upper, codeToVoltage_eq]
  field_simp

/-- Settles O24: half a unit of rounding is r/510 of voltage. -/
theorem voltageRoundTrip : Obligations.VoltageRoundTrip := by
  unfold Obligations.VoltageRoundTrip
  intro m v r hr h0 hv
  have code : ((voltageToCode m v r).toNat : Volt) = round8 m (v / r * 255) := by
    have h := voltageToCode_toNat m v hr
    rw [clampVolt_of_mem h0 hv] at h
    exact_mod_cast h
  have step : 0 < r / 255 := by positivity
  calc |codeToVoltage (voltageToCode m v r) r - v|
    _ = |(round8 m (v / r * 255) - v / r * 255) * (r / 255)| := by
      rw [codeToVoltage_eq, code]
      congr 1
      field_simp
    _ = |round8 m (v / r * 255) - v / r * 255| * (r / 255) := by
      rw [abs_mul, abs_of_pos step]
    _ ≤ 1 / 2 * (r / 255) := mul_le_mul_of_nonneg_right (round8_nearest ..) step.le
    _ = r / 510 := by ring

/-- Rounding is monotone: two integers out of order would both be at a tie, and at one x. -/
theorem round8_mono (m : RoundMode) {x y : Volt} (h : x ≤ y) : round8 m x ≤ round8 m y := by
  by_contra above
  have next : (round8 m y : Volt) + 1 ≤ round8 m x := by exact_mod_cast not_le.mp above
  have lower := (abs_le.mp (round8_nearest m y)).left
  have upper := (abs_le.mp (round8_nearest m x)).right
  have same : x = y := by linarith
  exact above (same ▸ le_rfl)

theorem clampVolt_mono {v w : Volt} (h : v ≤ w) (hi : Volt) : clampVolt v 0 hi ≤ clampVolt w 0 hi :=
  min_le_min_right hi (max_le_max_right 0 h)

theorem codeToVoltage_strictMono {c d : Byte} {r : Volt} (hr : 0 < r) (h : c < d) :
    codeToVoltage c r < codeToVoltage d r := by
  have codes : (c.toNat : Volt) < d.toNat := by exact_mod_cast BitVec.lt_def.mp h
  rw [codeToVoltage_eq, codeToVoltage_eq]
  gcongr

theorem voltageToCode_mono (m : RoundMode) {v w r : Volt} (hr : 0 < r) (h : v ≤ w) :
    voltageToCode m v r ≤ voltageToCode m w r := by
  have scaled : clampVolt v 0 r / r * 255 ≤ clampVolt w 0 r / r * 255 := by
    gcongr
    exact clampVolt_mono h r
  have codes := round8_mono m scaled
  rw [← voltageToCode_toNat m v hr, ← voltageToCode_toNat m w hr] at codes
  exact BitVec.le_def.mpr (Int.ofNat_le.mp codes)

/-- Settles O25: each stage of either conversion is monotone, and a clamped voltage is left by a
second clamp. -/
theorem converterIsMonotone : Obligations.ConverterIsMonotone := by
  unfold Obligations.ConverterIsMonotone
  refine ⟨fun c d r hr => codeToVoltage_strictMono hr, fun m v w r hr => voltageToCode_mono m hr,
    fun m v r hr => ?_⟩
  obtain ⟨lower, upper⟩ := clampVolt_mem v hr.le
  rw [voltageToCode, clampVolt_of_mem lower upper, voltageToCode]

end Sys2Proof.Machine
end

section
/-! The next state of each session command and of each conversion command, path by path
(spec/41_conversion.md R122, R123; spec/42_sequencer.md R132 to R137, R143; spec/43_session.md R147
to R157). A command in flight is a `commandWaits`; each request, register update and end takes that
form to the same form or to a `commandEnd`. -/

namespace Sys2Proof.Machine

variable {s u : State} {p : Phase} {ps : List Phase} {evs : List BusEvent}

/-! A command in flight. -/

/-- The state a command's rule starts from: nothing visited, nothing issued (R91). -/
theorem clearResults_eq_waits (s : State) : s.clearResults = commandWaits s s.seq [] [] := by
  simp only [commandWaits, List.append_nil]
  rfl

theorem commandWaits_setVref (r : Volt) :
    (commandWaits u p ps evs).setVref r = commandWaits (u.setVref r) p ps evs := rfl

theorem commandWaits_setSession (v : Session) :
    (commandWaits u p ps evs).setSession v = commandWaits (u.setSession v) p ps evs := rfl

theorem commandWaits_commit (r : Volt) (c : Channel) (code : Byte) :
    commit (commandWaits u p ps evs) r c code = commandWaits (commit u r c code) p ps evs := rfl

theorem commandWaits_commitAll (r : Volt) (codes : Vector Byte 4) :
    commitAll (commandWaits u p ps evs) r codes = commandWaits (commitAll u r codes) p ps evs := by
  simp only [commitAll, commandWaits_commit]

theorem commandWaits_setSeq (q : Phase) :
    (commandWaits u p ps evs).setSeq q = commandWaits u q (ps ++ [q]) evs := by
  simp only [commandWaits, State.setSeq, List.append_assoc]

theorem commandWaits_takeAnswer (e : BusEvent) :
    (commandWaits u p ps evs).takeAnswer e = commandWaits u p ps (evs ++ [e]) := by
  simp only [commandWaits, State.takeAnswer, List.append_assoc, List.drop_drop,
    List.length_append, List.length_singleton, Nat.add_assoc]

theorem commandWaits_finish (st : Status) :
    (commandWaits u p ps evs).finish st =
      commandEnd u st Results.cleared (ps ++ [.idle]) evs := by
  simp only [commandWaits, commandEnd, State.finish, State.setStatus, State.setSeq,
    List.append_assoc]

theorem commandWaits_finishWith (r : Results) :
    (commandWaits u p ps evs).finishWith r = commandEnd u .ok r (ps ++ [.idle]) evs := by
  simp only [commandWaits, commandEnd, State.finishWith, State.setResults, State.finish,
    State.setStatus, State.setSeq, List.append_assoc]

/-- A command in flight has taken as many answers as it issued events. -/
theorem commandWaits_answerAt (k : Nat) :
    (commandWaits u p ps evs).answerAt k = u.answerAt (evs.length + k) := by
  simp only [State.answerAt, commandWaits, List.getElem?_drop, Nat.add_assoc]

/-! One request. -/

theorem busProbe_silent (h : s.answerAt 0 = none) (k : Bool → State → State) :
    busProbe s k = s := by
  rw [busProbe, State.answer_eq, h]

theorem busProbe_answered {a : PortAnswer} (h : s.answerAt 0 = some a)
    (k : Bool → State → State) :
    busProbe s k = k a.ok (s.takeAnswer (.probe Config.devAddr a.ok)) := by
  rw [busProbe, State.answer_eq, h]

/-- A command-only write, by the port's answer to it (R132). -/
theorem txCmd_silent (h : s.answerAt 0 = none) (k : State → State) :
    txCmd s k = s.setSeq .txCmd := by
  rw [txCmd, busTx, State.answer_eq, State.setSeq_answerAt, h]

theorem txCmd_failed {a : PortAnswer} (h : s.answerAt 0 = some a) (ha : a.ok = false)
    (k : State → State) :
    txCmd s k = ((s.setSeq .txCmd).takeAnswer (.tx Config.devAddr [s.cb] false)).finish
      .busTransferFailed := by
  rw [txCmd, busTx, State.answer_eq, State.setSeq_answerAt, h]
  simp only [ha, Bool.false_eq_true, if_false]
  rfl

theorem txCmd_sent {a : PortAnswer} (h : s.answerAt 0 = some a) (ha : a.ok = true)
    (k : State → State) :
    txCmd s k = k ((s.setSeq .txCmd).takeAnswer (.tx Config.devAddr [s.cb] true)) := by
  rw [txCmd, busTx, State.answer_eq, State.setSeq_answerAt, h]
  simp only [ha, if_true]

/-! Read-N from the state a rule starts from (R134). -/

section

variable {n : Nat} {hn : n ≤ 4} {k : Vector Byte n → State → State} {a b : PortAnswer}

theorem readN_silentTx (h : u.answerAt 0 = none) :
    readN (commandWaits u p [] []) n hn k = commandWaits u .txCmd [.txCmd] [] := by
  have h' : (commandWaits u p [] []).answerAt 0 = none := (commandWaits_answerAt 0).trans h
  rw [readN, txCmd_silent h', commandWaits_setSeq]
  rfl

theorem readN_failedTx (h : u.answerAt 0 = some a) (ha : a.ok = false) :
    readN (commandWaits u p [] []) n hn k =
      commandEnd u .busTransferFailed Results.cleared [.txCmd, .idle]
        [.tx Config.devAddr [u.cb] false] := by
  have h' : (commandWaits u p [] []).answerAt 0 = some a := (commandWaits_answerAt 0).trans h
  rw [readN, txCmd_failed h' ha, commandWaits_setSeq, commandWaits_takeAnswer, commandWaits_finish]
  rfl

/-- After a good command-only write a Read-N receives. -/
theorem readN_sent (h : u.answerAt 0 = some a) (ha : a.ok = true) :
    readN (commandWaits u p [] []) n hn k =
      busRx (commandWaits u .rx [.txCmd, .rx] [.tx Config.devAddr [u.cb] true]) (n + 1)
        (Nat.succ_le_succ hn) fun reply v =>
          match reply with
          | none => v.raise .busTransferFailed
          | some bytes => k (discardStale n bytes) v := by
  have h' : (commandWaits u p [] []).answerAt 0 = some a := (commandWaits_answerAt 0).trans h
  rw [readN, txCmd_sent h' ha, commandWaits_setSeq, commandWaits_takeAnswer, commandWaits_setSeq]
  rfl

theorem readN_silentRx (h : u.answerAt 0 = some a) (ha : a.ok = true) (h1 : u.answerAt 1 = none) :
    readN (commandWaits u p [] []) n hn k =
      commandWaits u .rx [.txCmd, .rx] [.tx Config.devAddr [u.cb] true] := by
  rw [readN_sent h ha, busRx, State.answer_eq, commandWaits_answerAt]
  simp only [List.length_singleton, Nat.add_zero, h1]

theorem readN_failedRx (h : u.answerAt 0 = some a) (ha : a.ok = true)
    (h1 : u.answerAt 1 = some b) (hb : b.ok = false) :
    readN (commandWaits u p [] []) n hn k =
      commandEnd u .busTransferFailed Results.cleared [.txCmd, .rx, .idle]
        [.tx Config.devAddr [u.cb] true, .rx Config.devAddr (n + 1) none] := by
  rw [readN_sent h ha, busRx, State.answer_eq, commandWaits_answerAt]
  simp only [List.length_singleton, Nat.add_zero, h1, hb, Bool.false_eq_true, if_false,
    State.raise_eq, commandWaits_takeAnswer, commandWaits_finish]
  rfl

theorem readN_received (h : u.answerAt 0 = some a) (ha : a.ok = true)
    (h1 : u.answerAt 1 = some b) (hb : b.ok = true) :
    readN (commandWaits u p [] []) n hn k =
      k (discardStale n (receivedBytes b (n + 1) (Nat.succ_le_succ hn)))
        (commandWaits u .rx [.txCmd, .rx]
          [.tx Config.devAddr [u.cb] true, .rx Config.devAddr (n + 1)
            (some (receivedBytes b (n + 1) (Nat.succ_le_succ hn)).toList)]) := by
  rw [readN_sent h ha, busRx, State.answer_eq, commandWaits_answerAt]
  simp only [List.length_singleton, Nat.add_zero, h1, hb, if_true, commandWaits_takeAnswer]
  rfl

end

end Sys2Proof.Machine
end

section
/-! The rules of the conversion commands and of the session commands (spec/41_conversion.md R122,
R123; spec/43_session.md R147 to R157). -/

namespace Sys2Proof.Machine

variable {s : State}

/-! Reading operands. -/

theorem commandFaulted_eq (s : State) (f : Fault) :
    commandFaulted s f = (s.clearResults.faultAt f).idleSeq := rfl

theorem commandRefused_eq (s : State) (r : Refusal) :
    commandRefused s r = (s.clearResults.refuse r).idleSeq := rfl

/-- Settles O26, by the value of VREF_IN. -/
theorem convC2vRule : Obligations.ConvC2vRule := by
  unfold Obligations.ConvC2vRule
  refine ⟨fun b => decode_packWord (m := .convC2v) (by decide) (Form.fits_b.mpr rfl),
    fun s b r hv hr => ?good, fun s b hv => ?unwritten, fun s b r hv hr => ?nonPositive⟩
  case good =>
    simp only [exec, execConvC2v, admitCommand, State.clearResults_vrefIn, hv,
      withReference_pos hr]
    exact admitCommand_finishWith s (Results.ofVolt (codeToVoltage b r))
  case unwritten =>
    simp only [exec, execConvC2v, admitCommand, State.clearResults_vrefIn, hv,
      withReference_none, commandFaulted_eq]
  case nonPositive =>
    simp only [exec, execConvC2v, admitCommand, State.clearResults_vrefIn, hv,
      withReference_nonpos hr, commandRefused_eq]

/-- CONV_V2C with VIN written goes on to its reference (R94, R123). -/
theorem exec_convV2c {v : Volt} (hv : s.vin = some v) :
    exec .convV2c s = .next (withReference s.clearResults s.vrefIn fun r =>
      s.clearResults.finishWith (Results.ofByte (voltageToCode s.params.roundMode v r))) :=
  congrArg Host.Outcome.next (withVin_some (s := s.clearResults) hv _)

/-- Settles O27, by the values of VIN and then VREF_IN. -/
theorem convV2cRule : Obligations.ConvV2cRule := by
  unfold Obligations.ConvV2cRule
  refine ⟨decode_encode (i := .convV2c) rfl, fun s v r hv hr pos => ?good, fun s hv => ?noVin,
    fun s v hv hr => ?noReference, fun s v r hv hr neg => ?nonPositive⟩
  case good =>
    rw [exec_convV2c hv, hr, withReference_pos pos]
    exact admitCommand_finishWith s (Results.ofByte (voltageToCode s.params.roundMode v r))
  case noVin => exact congrArg Host.Outcome.next (withVin_none (s := s.clearResults) hv _)
  case noReference => rw [exec_convV2c hv, hr, withReference_none, commandFaulted_eq]
  case nonPositive => rw [exec_convV2c hv, hr, withReference_nonpos neg, commandRefused_eq]

/-! INIT. -/

section

variable {b : Byte} {a : Nibble} {r : Volt} {p q : PortAnswer}

/-- The byte INIT composes in the state `s` (R145). -/
def State.initByte (s : State) (b : Byte) (a : Nibble) : Byte :=
  initCompose s.params.reinitPolicy s.cb (enableDacArg b) (modeArg a)

/-- INIT's state before it transmits: VREF and CB written, the probe answered ready (R146, R147). -/
def State.initSends (s : State) (b : Byte) (a : Nibble) (r : Volt) : State :=
  commandWaits ((s.setVref r).setCb (s.initByte b a)) .probe [.probe] [.probe Config.devAddr true]

theorem probing_eq_waits (s : State) (r : Volt) :
    s.clearResults.probing r = commandWaits (s.setVref r) .probe [.probe] [] := by
  rw [State.probing, clearResults_eq_waits, commandWaits_setVref, commandWaits_setSeq]
  rfl

/-- INIT with a reference above 0 probes (R147). -/
theorem exec_init_probes (hv : s.vrefIn = some r) (hr : 0 < r) :
    exec (.init b a) s = .next (busProbe (commandWaits (s.setVref r) .probe [.probe] [])
      fun ready u =>
        if ready then txCmd (u.setCb (u.initByte b a)) fun w => (w.setSession .ready).finish .ok
        else u.raise .deviceNotReady) := by
  simp only [exec, execInit, admitCommand, State.clearResults_vrefIn, hv, withReference_pos hr,
    ← probing_eq_waits]
  rfl

/-- INIT of a device that is ready composes CB and transmits it (R147). -/
theorem exec_init_sends (hv : s.vrefIn = some r) (hr : 0 < r) (h0 : s.answerAt 0 = some p)
    (hp : p.ok = true) :
    exec (.init b a) s =
      .next (txCmd (s.initSends b a r) fun w => (w.setSession .ready).finish .ok) := by
  rw [exec_init_probes hv hr, busProbe_answered ((commandWaits_answerAt 0).trans h0), hp,
    commandWaits_takeAnswer]
  rfl

/-- The request after INIT's probe is the second one. -/
theorem initSends_answerAt : (s.initSends b a r).answerAt 0 = s.answerAt 1 :=
  commandWaits_answerAt 0

end

/-- Settles O28, by the value of VREF_IN and the port's answers to the probe and the transmit. -/
theorem initRule : Obligations.InitRule := by
  unfold Obligations.InitRule
  refine ⟨fun a b => decode_packWord (m := .init) (by decide) Form.fits_i,
    fun s b a hv => ?unwritten, fun s b a r hv hr => ?nonPositive, fun s b a r p hv hr h0 hp => ?notReady,
    fun s b a r p q hv hr h0 hp h1 hq => ?failed, fun s b a r p q hv hr h0 hp h1 hq => ?good⟩
  case unwritten =>
    simp only [exec, execInit, admitCommand, State.clearResults_vrefIn, hv, withReference_none,
      commandFaulted_eq]
  case nonPositive =>
    simp only [exec, execInit, admitCommand, State.clearResults_vrefIn, hv,
      withReference_nonpos hr, commandRefused_eq]
  case notReady =>
    rw [exec_init_probes hv hr, busProbe_answered ((commandWaits_answerAt 0).trans h0), hp,
      commandWaits_takeAnswer]
    exact congrArg Host.Outcome.next (commandWaits_finish .deviceNotReady)
  case failed =>
    rw [exec_init_sends hv hr h0 hp, txCmd_failed (initSends_answerAt.trans h1) hq, State.initSends,
      commandWaits_setSeq, commandWaits_takeAnswer, commandWaits_finish]
    rfl
  case good =>
    rw [exec_init_sends hv hr h0 hp, txCmd_sent (initSends_answerAt.trans h1) hq, State.initSends,
      commandWaits_setSeq, commandWaits_takeAnswer, commandWaits_setSession, commandWaits_finish]
    rfl

/-! WRITE_VOLTAGE. -/

/-- WRITE_VOLTAGE in Ready with VIN written goes on to its reference (R94, R151). -/
theorem exec_writeVoltage {v : Volt} (ready : s.session = .ready) (hv : s.vin = some v) :
    exec .writeVoltage s = .next (withReference s.clearResults s.vref fun r =>
      writeDac s.clearResults (voltageToCode s.params.roundMode (clampVolt v 0 r) r)) :=
  (admitReady_ready ready _).trans
    (congrArg Host.Outcome.next (withVin_some (s := s.clearResults) hv _))

/-- The end of the shared path of WRITE_RAW and WRITE_VOLTAGE, by the port's answer (R150). -/
theorem writeDac_clearResults {p : PortAnswer} (h : s.answerAt 0 = some p) (code : Byte) :
    writeDac s.clearResults code =
      { commandEnd s (if p.ok then .ok else .busTransferFailed) Results.cleared
          [.txCmdData, .idle] [.tx 0x48 [s.cb ||| 0x40, code] p.ok] with
        cb := s.cb ||| 0x40, dacData := some code } := by
  rw [writeDac_answered ((s.clearResults_answerAt 0).trans h), dacReady_finish]
  rfl

/-- Settles O30, by the values of VIN and VREF; with both the path is that of WRITE_RAW. -/
theorem writeVoltageRule : Obligations.WriteVoltageRule := by
  unfold Obligations.WriteVoltageRule
  refine ⟨decode_encode (i := .writeVoltage) rfl, fun s v r p ready hv hr pos h0 => ?answered,
    fun s ready hv => ?noVin,
    fun s v ready hv => ⟨fun hr => ?noReference, fun r hr neg => ?refused⟩⟩
  case answered =>
    rw [exec_writeVoltage ready hv, hr, withReference_pos pos, writeDac_clearResults h0]
  case noVin =>
    exact (admitReady_ready ready _).trans
      (congrArg Host.Outcome.next (withVin_none (s := s.clearResults) hv _))
  case noReference => rw [exec_writeVoltage ready hv, hr, withReference_none, commandFaulted_eq]
  case refused => rw [exec_writeVoltage ready hv, hr, withReference_nonpos neg, commandRefused_eq]

end Sys2Proof.Machine
end

section
/-! The read commands (spec/43_session.md R152 to R157), and the port that never answers
(spec/42_sequencer.md R143). -/

namespace Sys2Proof.Machine

variable {s : State}

/-! Received bytes. -/

/-- A receive of all five bytes delivers the answer's bytes (R131). -/
theorem receivedBytes_five (q : PortAnswer) : receivedBytes q 5 (Nat.le_refl 5) = q.bytes :=
  Vector.ext fun j hj => by simp only [receivedBytes, Vector.getElem_ofFn]

/-- The four readings of READ_ALL are received bytes 1 to 4 (R136, R155). -/
theorem readings_four (q : PortAnswer) (h : 5 ≤ 5) :
    discardStale 4 (receivedBytes q 5 h) =
      #v[q.bytes[1], q.bytes[2], q.bytes[3], q.bytes[4]] := rfl

theorem map_four {α β : Type} (f : α → β) (a b c d : α) :
    #v[a, b, c, d].map f = #v[f a, f b, f c, f d] := by
  simp

/-- Writing every place of a vector of four gives the vector written. -/
theorem set_all {α : Type} (v w : Vector α 4) :
    (((v.set 0 w[0]).set 1 w[1]).set 2 w[2]).set 3 w[3] = w := by
  refine Vector.ext fun j hj => ?_
  interval_cases j <;> simp

/-- The commit of four readings replaces both caches (R152, R155). -/
theorem commitAll_eq (u : State) (r : Volt) (codes : Vector Byte 4) :
    commitAll u r codes =
      { u with lastRaw := codes, lastConv := codes.map fun code => codeToVoltage code r } := by
  have raw : (commitAll u r codes).lastRaw = codes := set_all u.lastRaw codes
  have conv : (commitAll u r codes).lastConv = codes.map fun code => codeToVoltage code r := by
    rw [← set_all u.lastConv (codes.map fun code => codeToVoltage code r)]
    simp only [Vector.getElem_map]
    rfl
  calc commitAll u r codes
    _ = { u with
          lastRaw := (commitAll u r codes).lastRaw
          lastConv := (commitAll u r codes).lastConv } := rfl
    _ = _ := by rw [raw, conv]

/-! The shared path of READ_CHANNEL_RAW and READ_CHANNEL_VOLTAGE. -/

section

variable {a : Nibble} {results : Byte → Volt → Results} {p q : PortAnswer} {r : Volt}

/-- The state with the control byte a read of channel `a` sends (R96, R153). -/
def State.onChannel (s : State) (a : Nibble) : State := s.setCb ((s.cb &&& 0xFC) ||| a.setWidth 8)

/-- With a channel in range the path is a Read-N of one reading from the new CB (R153). -/
theorem readChannel_valid (ha : a ≤ 3) :
    readChannel s.clearResults a results =
      readN (commandWaits (s.onChannel a) s.seq [] []) 1 (by decide) fun codes t =>
        withReference t t.vref fun r =>
          (commit (t.setSeq .commit) r (channelArg a) codes[0]).finishWith
            (results codes[0] r) := by
  rw [readChannel, fnSetChannel_valid (BitVec.not_lt.mpr ha), clearResults_eq_waits]
  rfl

theorem readChannel_completes (ha : a ≤ 3) (hv : s.vref = some r) (hr : 0 < r)
    (h0 : s.answerAt 0 = some p) (hp : p.ok = true) (h1 : s.answerAt 1 = some q)
    (hq : q.ok = true) :
    readChannel s.clearResults a results =
      commandEnd (commit (s.onChannel a) r (channelArg a) q.bytes[1]) .ok (results q.bytes[1] r)
        [.txCmd, .rx, .commit, .idle]
        [.tx Config.devAddr [(s.onChannel a).cb] true,
          .rx Config.devAddr 2 (some [q.bytes[0], q.bytes[1]])] := by
  have hv' (ps : List Phase) (evs : List BusEvent) :
      (commandWaits (s.onChannel a) .rx ps evs).vref = some r := hv
  rw [readChannel_valid ha, readN_received (u := s.onChannel a) h0 hp h1 hq, hv',
    withReference_pos hr, commandWaits_setSeq, commandWaits_commit, commandWaits_finishWith]
  rfl

end

/-- Either command in Ready takes the shared path. -/
theorem exec_readsChannel {i : Nibble → Instr} (hi : i = .readChannelRaw ∨ i = .readChannelVoltage)
    (ready : s.session = .ready) :
    ∃ results, ∀ a, exec (i a) s = .next (readChannel s.clearResults a results) := by
  obtain rfl | rfl := hi
  · exact ⟨_, fun a => admitReady_ready ready _⟩
  · exact ⟨_, fun a => admitReady_ready ready _⟩

/-- Settles O31: both commands take the shared path, which ends at the channel check, at the
transmit or at the receive. -/
theorem readChannelFailures : Obligations.ReadChannelFailures := by
  unfold Obligations.ReadChannelFailures
  intro s i hi ready
  obtain ⟨results, path⟩ := exec_readsChannel hi ready
  refine ⟨fun a ha => ?invalid, fun a p ha h0 hp => ?failedTx,
    fun a p q ha h0 hp h1 hq => ?failedRx⟩
  case invalid =>
    rw [path, readChannel_invalid ha, commandEnd_eq_finish]
    rfl
  case failedTx =>
    rw [path, readChannel_valid ha, readN_failedTx (u := s.onChannel a) h0 hp]
    rfl
  case failedRx =>
    rw [path, readChannel_valid ha, readN_failedRx (u := s.onChannel a) h0 hp h1 hq]
    rfl

/-! A channel number as an operand (R97). -/

theorem ofNat_channel_le (c : Channel) : BitVec.ofNat 4 c.val ≤ 3 := by
  revert c; decide

theorem channelArg_ofNat (c : Channel) : channelArg (BitVec.ofNat 4 c.val) = c := by
  revert c; decide

theorem onChannel_ofNat (s : State) (c : Channel) :
    s.onChannel (BitVec.ofNat 4 c.val) = s.setCb ((s.cb &&& 0xFC) ||| BitVec.ofNat 8 c.val) := by
  have width : (BitVec.ofNat 4 c.val).setWidth 8 = BitVec.ofNat 8 c.val := by
    revert c; decide
  rw [State.onChannel, width]

/-- Settles O32: the shared path to its end, with the code as the result. -/
theorem readChannelRawCompletes : Obligations.ReadChannelRawCompletes := by
  unfold Obligations.ReadChannelRawCompletes
  refine ⟨fun a => decode_packWord (m := .readChannelRaw) (by decide) (Form.fits_ch.mpr rfl),
    fun s c r p q ready hv hr h0 hp h1 hq => (admitReady_ready ready _).trans ?_⟩
  rw [readChannel_completes (ofNat_channel_le c) hv hr h0 hp h1 hq, channelArg_ofNat,
    onChannel_ofNat]
  rfl

/-- Settles O33: the shared path to its end, with the converted code as the result. -/
theorem readChannelVoltageCompletes : Obligations.ReadChannelVoltageCompletes := by
  unfold Obligations.ReadChannelVoltageCompletes
  refine ⟨fun a => decode_packWord (m := .readChannelVoltage) (by decide) (Form.fits_ch.mpr rfl),
    fun s c r p q ready hv hr h0 hp h1 hq => (admitReady_ready ready _).trans ?_⟩
  rw [readChannel_completes (ofNat_channel_le c) hv hr h0 hp h1 hq, channelArg_ofNat,
    onChannel_ofNat]
  rfl

/-! The shared path of READ_ALL_RAW and READ_ALL_VOLTAGE. -/

section

variable {results : Vector Byte 4 → Volt → Results} {p q : PortAnswer} {r : Volt}

/-- The state with the control byte a read of all channels sends (R155). -/
def State.withoutAi (s : State) : State := s.setCb (s.cb &&& 0xFB)

/-- The path is a Read-N of four readings from the new CB (R155). -/
theorem readAll_eq :
    readAll s.clearResults results =
      readN (commandWaits s.withoutAi s.seq [] []) 4 (by decide) fun codes t =>
        withReference t t.vref fun r =>
          (commitAll (t.setSeq .commit) r codes).finishWith (results codes r) := by
  rw [readAll, clearResults_eq_waits]
  rfl

theorem readAll_completes (hv : s.vref = some r) (hr : 0 < r) (h0 : s.answerAt 0 = some p)
    (hp : p.ok = true) (h1 : s.answerAt 1 = some q) (hq : q.ok = true) :
    readAll s.clearResults results =
      commandEnd
        { s.withoutAi with
          lastRaw := #v[q.bytes[1], q.bytes[2], q.bytes[3], q.bytes[4]],
          lastConv := #v[codeToVoltage q.bytes[1] r, codeToVoltage q.bytes[2] r,
            codeToVoltage q.bytes[3] r, codeToVoltage q.bytes[4] r] } .ok
        (results #v[q.bytes[1], q.bytes[2], q.bytes[3], q.bytes[4]] r)
        [.txCmd, .rx, .commit, .idle]
        [.tx Config.devAddr [s.withoutAi.cb] true,
          .rx Config.devAddr 5 (some q.bytes.toList)] := by
  have hv' (ps : List Phase) (evs : List BusEvent) :
      (commandWaits s.withoutAi .rx ps evs).vref = some r := hv
  rw [readAll_eq, readN_received (u := s.withoutAi) h0 hp h1 hq, hv', withReference_pos hr,
    commandWaits_setSeq, commandWaits_commitAll, commandWaits_finishWith, commitAll_eq,
    readings_four, receivedBytes_five, map_four]
  rfl

end

/-- Either command in Ready takes the shared path. -/
theorem exec_readsAll {i : Instr} (hi : i = .readAllRaw ∨ i = .readAllVoltage)
    (ready : s.session = .ready) :
    ∃ results, exec i s = .next (readAll s.clearResults results) := by
  obtain rfl | rfl := hi
  · exact ⟨_, admitReady_ready ready _⟩
  · exact ⟨_, admitReady_ready ready _⟩

/-- Settles O34: both commands take the shared path, which ends at the transmit or at the
receive. -/
theorem readAllFailures : Obligations.ReadAllFailures := by
  unfold Obligations.ReadAllFailures
  intro s i hi ready
  obtain ⟨results, path⟩ := exec_readsAll hi ready
  refine ⟨fun p h0 hp => ?failedTx, fun p q h0 hp h1 hq => ?failedRx⟩
  case failedTx =>
    rw [path, readAll_eq, readN_failedTx (u := s.withoutAi) h0 hp]
    rfl
  case failedRx =>
    rw [path, readAll_eq, readN_failedRx (u := s.withoutAi) h0 hp h1 hq]
    rfl

/-- Settles O35: the shared path to its end, with the four codes as the results. -/
theorem readAllRawCompletes : Obligations.ReadAllRawCompletes := by
  unfold Obligations.ReadAllRawCompletes
  refine ⟨decode_encode (i := .readAllRaw) rfl,
    fun s r p q ready hv hr h0 hp h1 hq => (admitReady_ready ready _).trans ?_⟩
  rw [readAll_completes hv hr h0 hp h1 hq, Results.ofCodes, map_four]
  rfl

/-- Settles O36: the shared path to its end, with the four converted codes as the results. -/
theorem readAllVoltageCompletes : Obligations.ReadAllVoltageCompletes := by
  unfold Obligations.ReadAllVoltageCompletes
  refine ⟨decode_encode (i := .readAllVoltage) rfl,
    fun s r p q ready hv hr h0 hp h1 hq => (admitReady_ready ready _).trans ?_⟩
  rw [readAll_completes hv hr h0 hp h1 hq, map_four, Results.ofVolts, map_four]
  rfl

end Sys2Proof.Machine
end

section
/-! A port that never answers (spec/42_sequencer.md R143; spec/70_reset_and_hazards.md R203). -/

namespace Sys2Proof.Machine

variable {s : State}

/-- Without an answer to its transmit, WRITE_* waits in TX_CMD_DATA (R143, R150). -/
theorem writeDac_silent (h : s.answerAt 0 = none) (code : Byte) :
    writeDac s.clearResults code =
      commandWaits ((s.setCb (fnEnableDac s.cb true)).setDacData code) .txCmdData
        [.txCmdData] [] := by
  refine writeDac_elim (P := (· = _)) (fun _ => ?_) (fun _ ha _ => nomatch h.symm.trans ha)
    fun _ ha _ => nomatch h.symm.trans ha
  simp only [commandWaits, List.append_nil]
  rfl

/-- Settles O38: each command reaches the unanswered request by the path of its rule, and stays in
the request's phase. -/
theorem neverAnsweringPortHangs : Obligations.NeverAnsweringPortHangs := by
  unfold Obligations.NeverAnsweringPortHangs
  refine ⟨fun s b a r hv hr => ⟨fun h0 => ?probe, fun p h0 hp h1 => ?initTx⟩,
    fun s b ready h0 => ?writeRaw, fun s v r ready hvin hv hr h0 => ?writeVoltage,
    fun s i hi ready => ?readAll, fun s a i ha hi ready => ?readChannel,
    fun s => step_of_waiting⟩
  case probe =>
    rw [exec_init_probes hv hr, busProbe_silent ((commandWaits_answerAt 0).trans h0)]
    rfl
  case initTx =>
    rw [exec_init_sends hv hr h0 hp, txCmd_silent (initSends_answerAt.trans h1), State.initSends,
      commandWaits_setSeq]
    rfl
  case writeRaw =>
    refine (admitReady_ready ready _).trans ?_
    rw [writeDac_silent h0]
    rfl
  case writeVoltage =>
    rw [exec_writeVoltage ready hvin, hv, withReference_pos hr, writeDac_silent h0]
    rfl
  case readAll =>
    obtain ⟨results, path⟩ := exec_readsAll hi ready
    rw [path, readAll_eq]
    refine ⟨fun h0 => ?_, fun p h0 hp h1 => ?_⟩
    · rw [readN_silentTx (u := s.withoutAi) h0]
      rfl
    · rw [readN_silentRx (u := s.withoutAi) h0 hp h1]
      rfl
  case readChannel =>
    have path : ∃ results, exec i s = .next (readChannel s.clearResults a results) := by
      obtain rfl | rfl := hi
      · exact ⟨_, admitReady_ready ready _⟩
      · exact ⟨_, admitReady_ready ready _⟩
    obtain ⟨results, path⟩ := path
    rw [path, readChannel_valid ha]
    refine ⟨fun h0 => ?_, fun p h0 hp h1 => ?_⟩
    · rw [readN_silentTx (u := s.onChannel a) h0]
      rfl
    · rw [readN_silentRx (u := s.onChannel a) h0 hp h1]
      rfl

end Sys2Proof.Machine
end
